-- ==== Sys2Proof/Word.lean ====
section
/-! DEFINITION. Word.lean: the byte, the numbered things of the part, and the shape of a sparse table. -/

namespace Sys2Proof

/-- One byte of a link, a line or a text (12.1). -/
abbrev Byte := BitVec 8

/-- A zone, 0 to 7 (00_scope.md, Identifiers). -/
abbrev Zone := Fin 8

/-- A frequency group, 0 to 3. -/
abbrev GroupId := Fin 4

/-- An intake line, 0 to 15. -/
abbrev LineId := Fin 16

/-- A set of zones; bit n is set when zone n is a member (R188). -/
abbrev ZoneSet := BitVec 8

/-- A sparse table: keys strictly rising, and a key that is not listed holds nothing
(a FREE record, an UNDEFINED entry, an empty mailbox, a reference that is not live). -/
abbrev Table (α : Type) := List (Nat × α)

end Sys2Proof
end

