-- ==== Sys2Proof/Syntax.lean ====
section
/-! DEFINITION. Syntax.lean: the commands of the part, one constructor for each row of spec/opcode_table.json. -/

namespace Sys2Proof

/-- The four office link rates the strap pins select (R184). -/
inductive OfficeRate where
  | r115200
  | r230400
  | r460800
  | r921600
  deriving DecidableEq, Repr

/-- The commands. An ORDER row is the execution, by the Office Link Port, of the order at the head of the order queue
(R176): its operands are the fields of that order's body, so the constructor repeats none of them. An EVENT row carries
the line, zone, group, bytes or level it happens with; where the spec makes the event take the head of a list or a
queue, it carries nothing. -/
inductive Instr where
  -- Subscribers and the Number Plan (orders)
  | blockDefine
  | blockClear
  | subDefine
  | subAlter
  | subState
  | subClose
  | groupMembers
  | subQuery
  | resolve
  -- Intake Lines and the Entry Dialogue (orders)
  | lineConfig
  | linePause
  | lineResume
  | lineQuery
  | phraseSet
  | phraseClear
  | phraseQuery
  -- Page Records and Admission (orders)
  | pageSubmit
  | pageCancel
  | pageQuery
  | classConfigRead
  | classConfigWrite
  | heldList
  -- Accounts, Tariffs and Reservations (orders)
  | accountOpen
  | accountSet
  | accountState
  | accountCredit
  | accountQuery
  | accountClose
  | tariffDefine
  | tariffQuery
  | periodClose
  -- The Billing Journal (orders)
  | journalFetch
  | journalRelease
  | journalStatus
  | journalLevel
  -- Zones, Tickets and Batches (orders)
  | zoneConfig
  | zoneServiceIn
  | zoneServiceOut
  | zoneQuery
  -- Frequency Groups and Air Time (orders)
  | groupConfig
  | groupQuery
  -- Site Links and Site Faults (orders)
  | linkConfig
  | faultAction
  | faultMask
  | faultClear
  | alarmMap
  | faultQuery
  -- Traffic Meters and Congestion (orders)
  | meterConfig
  | meterResetPeak
  | meterResetAverage
  | meterRead
  -- Office Link, Clock and Restart (orders)
  | identify
  | clockSet
  | clockRead
  | start
  | restart
  | storeErase
  | unknownOrderKind
  -- Office link events
  /-- The bytes that arrive on the office link up to the end of a frame. -/
  | officeFrameReceived (bytes : List Byte)
  /-- The bytes that arrive before more than 50 ms pass without one. -/
  | officeFrameGap (bytes : List Byte)
  /-- The start byte and the two length bytes of a frame. -/
  | officeFrameLength (high low : Byte)
  | answerSent
  | noticeSent
  /-- The LINK-HOLD input takes a level. -/
  | linkHoldChange (high : Bool)
  -- Starts and supply
  | restartStart
  | resetPin
  /-- Power returns with the strap pins at a rate, after a time without power in milliseconds. -/
  | powerUp (rate : OfficeRate) (without : Nat)
  | backupVoltageLow
  -- Intake line events
  | lineByteReceived (line : LineId) (byte : Byte) (framingError : Bool)
  | lineOpen (line : LineId)
  | lineClose (line : LineId)
  | lineCharacterConsumed (line : LineId)
  | promptSent (line : LineId)
  | entryTimeout (line : LineId)
  | idleTimeout (line : LineId)
  | admitWaitRetry
  | admitWaitLimit (line : LineId)
  -- Page events
  | retryDue
  | ackDeadline
  | expiry
  | ticketWaitService
  | ackTaken
  | registerTaken
  -- Zone, group and site link events
  | batchHoldExpiry (zone : Zone)
  | batchFrameSent (zone : Zone)
  | guardExpiry (group : GroupId)
  | drainTimeout (zone : Zone)
  | settleWindowExpiry (zone : Zone)
  /-- The bytes that arrive from a site up to the end of a frame. -/
  | statusReceived (zone : Zone) (bytes : List Byte)
  /-- The bytes that arrive from a site before more than 50 ms pass without one. -/
  | siteFrameGap (zone : Zone) (bytes : List Byte)
  | pollSend (zone : Zone)
  | takeTimeout (zone : Zone)
  | carrierTimeout (zone : Zone)
  | silenceTimeout (zone : Zone)
  | resyncTimeout (zone : Zone)
  | meterIntervalEnd
  deriving DecidableEq, Repr

end Sys2Proof
end

