-- ==== Sys2Proof/Decode.lean ====
section
/-! DEFINITION. Decode.lean: the command a word spells by the bits of spec/opcode_table.json. The part is a block: no row of
its table gives bits ("fields" is empty in every row), so no word spells a command. The byte forms the part does decode,
frames and order bodies, are read in Machine/Bytes.lean and Machine/Operands.lean. -/

namespace Sys2Proof

/-- The command that a word spells by the table's bits: none, since no row gives bits. -/
def decodeTableWord (_nbits _w : Nat) : Option Instr := none

end Sys2Proof
end

