-- ==== Sys2Proof/Config.lean ====
section
/-! DEFINITION. Config.lean: the capacities and fixed times of the part, and the values its manual leaves free. -/

namespace Sys2Proof.Config

/-- Live pages at most (R43). -/
def maxPages : Nat := 1024
/-- Journal places (R83). -/
def journalPlaces : Nat := 2048
/-- Tickets in the pool (R102). -/
def maxTickets : Nat := 2048
/-- Tickets of one batch at most (R108). -/
def batchTickets : Nat := 32
/-- Slots of one batch at most (R108). -/
def batchSlots : Nat := 128
/-- Bytes a receive ring holds (R19). -/
def ringSize : Nat := 512
/-- Fill at which HOLD is asserted (R20). -/
def holdOn : Nat := 410
/-- Fill at or below which a consumption releases HOLD (R20). -/
def holdOff : Nat := 256
/-- Orders the order queue holds (R176). -/
def orderPlaces : Nat := 4
/-- Answers the refusal list holds (R177). -/
def refusalPlaces : Nat := 4
/-- Notices the notice queue holds (R178). -/
def noticePlaces : Nat := 64
/-- Reports the return queue holds (R150). -/
def reportPlaces : Nat := 64
/-- References a hold mailbox holds (R57). -/
def mailboxPlaces : Nat := 8
/-- The office clock stops advancing at 4,294,967,295.999 s, here in milliseconds (R180). -/
def clockMax : Nat := 4294967295999
/-- The console admission wait limit, in milliseconds (R36). -/
def admitWaitLimit : Nat := 30000
/-- The POLL interval, in milliseconds (R130). -/
def pollInterval : Nat := 200
/-- The take timeout, in milliseconds (R128). -/
def takeTimeout : Nat := 500
/-- The longest time between two STATUS frames of a site that keeps to R138, in milliseconds. -/
def siteStatusInterval : Nat := 500
/-- A slot of air time, in milliseconds (00_scope.md). -/
def slotTime : Nat := 25
/-- The carrier timer's allowance for keying, and its length with no batch, in milliseconds (R134). -/
def carrierAllowance : Nat := 1000
/-- The least whole number of milliseconds that is more than the 50 ms two bytes of a frame may be apart (R175, R129). -/
def frameGap : Nat := 51

/-- FREE VALUE (log 14). The four bytes ACCOUNT-QUERY carries for an available amount that is outside the
signed 32-bit format: R77 says it may be negative, R186 gives it four bytes, and no rule says what they hold then. -/
opaque availableOutside : Int → BitVec 32

end Sys2Proof.Config
end

