-- ==== Sys2Proof/Machine/State.lean ====
section
/-! DEFINITION. Machine/State.lean: the state of the Kestrop 816, block by block (00_scope.md), as plain data, and
State.reset. -/

namespace Sys2Proof.Machine

/-! ## Names the blocks share -/

/-- EMERGENCY, PRIORITY, NORMAL (00_scope.md, Class). -/
inductive PageClass where
  | emergency
  | priority
  | normal
  deriving DecidableEq, Repr

/-- TONE, NUMERIC, ALPHA (R2). -/
inductive BodyKind where
  | tone
  | numeric
  | alpha
  deriving DecidableEq, Repr

/-- The four outcomes of a page (R52). -/
inductive PageOutcome where
  | delivered
  | expired
  | cancelled
  | undeliverable
  deriving DecidableEq, Repr

/-- The error codes E01 to E13 of the intake lines (02, error codes). -/
inductive ECode where
  | e01 | e02 | e03 | e04 | e05 | e06 | e07 | e08 | e09 | e10 | e11 | e12 | e13
  deriving DecidableEq, Repr

/-! ## Record store, office clock and part -/

/-- The store state found at a power-up (R184). -/
inductive StoreState where
  | empty
  | valid
  deriving DecidableEq, Repr

/-- The cause of a start (R183, R184). -/
inductive StartCause where
  | powerUp
  | restart
  | reset
  deriving DecidableEq, Repr

/-- The record store's flag, the office clock, the time base and what IDENTIFY reports of the part (R180, R181, R184). -/
structure Sys where
  /-- The millisecond time base, a free-running count (R180). -/
  base : Nat
  /-- The office clock: none while UNSET, else its time in milliseconds (R180, log 29). -/
  clock : Option Nat
  /-- The retention flag of the record store (R184). -/
  retention : Bool
  /-- The office link rate read from the strap pins at the last power-up (R184). -/
  rate : OfficeRate
  /-- The store state found at the last power-up (R181). -/
  storeFound : StoreState
  /-- The cause of the last start (R181). -/
  lastCause : StartCause
  deriving DecidableEq, Repr

/-! ## Subscriber Directory -/

/-- The kinds of subscriber that have a pager (R2). -/
inductive PagerKind where
  | numeric
  | alpha
  | twoWay
  deriving DecidableEq, Repr

/-- The fields of a NUMERIC, ALPHA or TWO_WAY record (01, 1.1). -/
structure Pager where
  kind : PagerKind
  air : Nat
  home : Zone
  roaming : ZoneSet
  hold : Bool
  /-- Zone and office-clock seconds of the last REGISTER (R153); absent for a one-way pager. -/
  lastReg : Option (Zone × Nat)
  memberships : Nat
  deriving DecidableEq, Repr

/-- The part of a record that depends on its kind: a pager, or a GROUP's members in order (R3). -/
inductive SubBody where
  | pager (p : Pager)
  | group (members : List Nat)
  deriving DecidableEq, Repr

/-- ACTIVE or SUSPENDED; a FREE record is not in the table (R1). -/
inductive SubState where
  | active
  | suspended
  deriving DecidableEq, Repr

/-- A defined subscriber record (01, 1.1). -/
structure Subscriber where
  state : SubState
  account : Nat
  defaultClass : PageClass
  body : SubBody
  deriving DecidableEq, Repr

/-- A DEFINED number-block entry (R5). -/
structure NumberBlock where
  first : Nat
  count : Nat
  index : Nat
  deriving DecidableEq, Repr

/-- The three tables of the Subscriber Directory. -/
structure Directory where
  subs : Table Subscriber
  blocks : Vector (Option NumberBlock) 8
  airMap : Table Nat
  deriving DecidableEq, Repr

/-! ## Intake Line Controller -/

/-- CALLER or CONSOLE (R18). -/
inductive LineClass where
  | caller
  | console
  deriving DecidableEq, Repr

/-- The prompts (R25). -/
inductive Prompt where
  | n
  | m
  | a (reference : Nat) (count : Nat)
  | e (code : ECode)
  | t
  | x
  deriving DecidableEq, Repr

/-- What an entry keeps after the number checks (R28). -/
structure EntryHead where
  index : Nat
  cls : PageClass
  override : Bool
  limit : Nat
  deriving DecidableEq, Repr

/-- The seven states of the entry assembler, each with the buffers it uses (R22, 02 2.3): the number buffer, the
kept head, the raw body, and in ADMIT_WAIT the expanded body with its kind. -/
inductive Assembler where
  | closed
  | awaitNumber
  | number (buffer : List Byte)
  | awaitBody (head : EntryHead)
  | body (head : EntryHead) (raw : List Byte)
  | admitWait (head : EntryHead) (kind : BodyKind) (text : List Byte)
  | skip
  deriving DecidableEq, Repr

/-- One intake line (R18). -/
structure Line where
  cls : LineClass
  rate : Nat
  entryTimeout : Nat
  idleTimeout : Nat
  /-- Unread bytes with their loss marks, oldest first (R19). -/
  ring : List (Byte × Bool)
  written : BitVec 16
  read : BitVec 16
  hold : Bool
  overrunNoticed : Bool
  asm : Assembler
  overrunLatch : Bool
  paused : Bool
  prompt : Option Prompt
  /-- The bytes of that prompt on the line's TXD; empty with no prompt in progress (R25). -/
  txd : List Byte
  /-- End time of the running entry or idle timer (R26). -/
  timer : Option Nat
  /-- End time of the wait limit (R34). -/
  waitLimit : Option Nat
  deriving DecidableEq, Repr

/-- The Intake Line Controller. -/
structure Intake where
  lines : Vector Line 16
  phrases : Table (List Byte)
  waitList : List LineId
  /-- Retries owed to the head of the wait list (R35, log 20). -/
  announcements : Nat
  deriving DecidableEq, Repr

/-! ## Page Store -/

/-- Where a request came from (R45). -/
inductive Origin where
  | line (l : LineId)
  | officeLink
  deriving DecidableEq, Repr

/-- The five states of a live page (03, 3.4). -/
inductive PageState where
  | waitTicket
  | attempt
  | awaitAck
  | retryWait
  | held
  deriving DecidableEq, Repr

/-- A page record less its reference, which is its key (03, 3.1). -/
structure Page where
  subscriber : Nat
  via : Option Nat
  account : Nat
  origin : Origin
  cls : PageClass
  bodyKind : BodyKind
  body : List Byte
  override : Bool
  state : PageState
  attempts : Nat
  stage : Nat
  ticketsOut : Nat
  aired : Bool
  transmissions : Nat
  estimate : Nat
  attemptFee : Nat
  /-- Office-clock seconds. -/
  accepted : Nat
  /-- Office-clock seconds. -/
  expiry : Nat
  /-- Office-clock milliseconds. -/
  retryDue : Option Nat
  /-- Office-clock milliseconds. -/
  ackDeadline : Option Nat
  deriving DecidableEq, Repr

/-- The Page Store: live pages by reference, the reference counter, the mailboxes that are not empty by subscriber. -/
structure PageStore where
  pages : Table Page
  refCounter : BitVec 16
  mailboxes : Table (List Nat)
  deriving DecidableEq, Repr

/-! ## Account Unit -/

/-- The money fields that depend on an account's kind (R65). -/
inductive Money where
  | prepaid (balance : Int) (threshold : Option Nat) (lowGiven : Bool)
  | postpaid (limit : Nat)
  deriving DecidableEq, Repr

/-- OPEN or SUSPENDED; a FREE record is not in the table (R64). -/
inductive AccountState where
  | opened
  | suspended
  deriving DecidableEq, Repr

/-- A defined account record (04, 4.1). -/
structure Account where
  state : AccountState
  plan : Nat
  money : Money
  periodCharged : Nat
  periodDelivered : Nat
  periodNotDelivered : Nat
  reserved : Nat
  livePages : Nat
  subRefs : Nat
  deriving DecidableEq, Repr

/-- A DEFINED tariff plan with its account count (R66). -/
structure Plan where
  page : Nat
  member : Nat
  perTen : Nat
  prioritySurcharge : Nat
  emergencySurcharge : Nat
  attemptFee : Nat
  accounts : Nat
  deriving DecidableEq, Repr

/-- The Account Unit. -/
structure AccountUnit where
  accounts : Table Account
  plans : Table Plan
  deriving DecidableEq, Repr

/-! ## Billing Journal -/

/-- The fields of the three kinds of journal record (R84). -/
inductive JournalBody where
  | outcome (subscriber : Nat) (via : Option Nat) (reference : Nat) (cls : PageClass) (result : PageOutcome)
      (units : Nat) (characters : Nat) (transmissions : Nat) (zone : Option Zone)
  | credit (amount : Int) (balance : Int)
  | period (charged : Nat) (delivered : Nat) (notDelivered : Nat)
  deriving DecidableEq, Repr

/-- A journal record (R83). -/
structure JournalRecord where
  seq : BitVec 32
  /-- Office-clock seconds, absent when the clock was UNSET. -/
  time : Option Nat
  account : Nat
  body : JournalBody
  deriving DecidableEq, Repr

/-- The Billing Journal, oldest record first. -/
structure Journal where
  records : List JournalRecord
  nextSeq : BitVec 32
  level : Nat
  high : Bool
  deriving DecidableEq, Repr

/-! ## Retry Scheduler -/

/-- The nine parameters of a class (03, 3.9). Times in the unit of the table: seconds, hours for the lifetime,
milliseconds for the batch hold. -/
structure ClassParams where
  ackWindow : Nat
  retryBase : Nat
  retryCap : Nat
  attemptLimit : Nat
  lifetime : Nat
  oneWayRepeats : Nat
  repeatInterval : Nat
  batchHold : Nat
  outcomeNotices : Bool
  deriving DecidableEq, Repr

/-- The parameters of the three classes. -/
structure ClassTable where
  emergency : ClassParams
  priority : ClassParams
  normal : ClassParams
  deriving DecidableEq, Repr

/-- The three time-ordered lists, as (office-clock milliseconds, reference), and the class parameters (R154). -/
structure Scheduler where
  retryDue : List (Nat × Nat)
  ackDeadline : List (Nat × Nat)
  expiry : List (Nat × Nat)
  classes : ClassTable
  deriving DecidableEq, Repr

/-! ## Dispatch Unit -/

/-- A live ticket; its zone and its state are the place it stands in (R102, log 25). -/
structure Ticket where
  reference : Nat
  cls : PageClass
  cost : Nat
  orphan : Bool
  deriving DecidableEq, Repr

/-- An OPEN or CLOSED batch (R106), with the PRIORITY and NORMAL batch holds in force when it opened (R61). -/
structure MakingBatch where
  closed : Bool
  tickets : List Ticket
  opened : Nat
  priorityHold : Nat
  normalHold : Nat
  deriving DecidableEq, Repr

/-- A SENT or ON_AIR batch (R106). -/
structure SiteBatch where
  onAir : Bool
  tickets : List Ticket
  opened : Nat
  number : BitVec 8
  toggle : Option Bool
  deriving DecidableEq, Repr

/-- The five zone states (R95). -/
inductive ZoneState where
  | outOfService
  | settling
  | inService
  | draining
  | faulted
  deriving DecidableEq, Repr

/-- What the Dispatch Unit holds for one zone (06). -/
structure ZoneRec where
  state : ZoneState
  homeGroup : GroupId
  drainTimeout : Nat
  settleWindow : Nat
  emergency : List Ticket
  priority : List Ticket
  normal : List Ticket
  making : Option MakingBatch
  site : Option SiteBatch
  drainTimer : Option Nat
  pattern : Fin 4
  nextBatch : BitVec 8
  deriving DecidableEq, Repr

/-- The Dispatch Unit: zones and the ticket-wait list. -/
structure DispatchUnit where
  zones : Vector ZoneRec 8
  ticketWait : List Nat
  deriving DecidableEq, Repr

/-! ## Group Arbiter -/

/-- FREE, GRANTED with its zone, GUARD with the end time of its timer (R117). -/
inductive GroupState where
  | free
  | granted (zone : Zone)
  | guarding (ends : Nat)
  deriving DecidableEq, Repr

/-- One frequency group (R117). -/
structure GroupRec where
  state : GroupState
  pointer : Zone
  requests : ZoneSet
  guardTime : Nat
  deriving DecidableEq, Repr

/-! ## Site Link Controller -/

/-- The five fault kinds (08, 8.5). -/
inductive FaultKind where
  | linkLost
  | carrierStuck
  | fwdPowerLow
  | reflectedHigh
  | siteAlarm
  deriving DecidableEq, Repr

/-- One fault kind of one zone (R139): present, latched, action TAKE_OUT, mask MASKED. -/
structure FaultRec where
  present : Bool
  latched : Bool
  takeOut : Bool
  masked : Bool
  deriving DecidableEq, Repr

/-- The values of the last valid STATUS (R128). -/
structure LastReport where
  carrier : Bool
  tt : Bool
  dt : Bool
  fwdPowerLow : Bool
  reflectedHigh : Bool
  siteAlarm : Bool
  deriving DecidableEq, Repr

/-- One entry of a BATCH frame (08, 8.1). -/
structure BatchEntry where
  air : Nat
  reference : Nat
  kind : BodyKind
  body : List Byte
  deriving DecidableEq, Repr

/-- The batch at the link (R128); a withheld frame keeps the entries read at the grant (R110). -/
inductive LinkBatch where
  | none
  | withheld (entries : List BatchEntry)
  | sent
  | onAir
  deriving DecidableEq, Repr

/-- The receiver of site frames: hunting for C3h, or the bytes after it (R129). -/
inductive SiteRx where
  | hunt
  | frame (got : List Byte)
  deriving DecidableEq, Repr

/-- One site link (R128). Timers are end times on the time base. -/
structure LinkRec where
  st : Bool
  /-- RA: none is NONE. -/
  ra : Option Bool
  last : Option LastReport
  resyncPending : Bool
  batch : LinkBatch
  silence : Option Nat
  resync : Option Nat
  take : Option Nat
  /-- The carrier timer with its mode: true is batch mode, false no-batch mode (R134). -/
  carrier : Option (Bool × Nat)
  settle : Option Nat
  discarded : Nat
  window : Nat
  faults : Vector FaultRec 5
  rx : SiteRx
  pollDue : Option Nat
  pollWaiting : Bool
  sendingBatch : Bool
  nextFrame : Option (List Byte)
  tx : List Byte
  deriving DecidableEq, Repr

/-- One alarm output: its map (bits 0 to 4 the fault kinds, bit 5 JOURNAL-HIGH) and its state (R142). -/
structure AlarmRec where
  map : BitVec 6
  asserted : Bool
  deriving DecidableEq, Repr

/-- The Site Link Controller. -/
structure Sites where
  links : Vector LinkRec 8
  alarmA : AlarmRec
  alarmB : AlarmRec
  deriving DecidableEq, Repr

/-! ## Return Report Unit -/

/-- A return report (08, 8.1). For an ACK, choice none is RECEIVED and some c is REPLY with choice c. -/
inductive Report where
  | ack (air : Nat) (reference : Nat) (choice : Option Nat) (zone : Zone)
  | register (air : Nat) (zone : Zone)
  deriving DecidableEq, Repr

/-! ## Traffic Meter -/

/-- The meter of one zone (R167). -/
structure ZoneMeter where
  threshold : Nat
  hysteresis : Nat
  count : Nat
  sample : Nat
  peak : Nat
  average : Nat
  congested : Bool
  deriving DecidableEq, Repr

/-- The Traffic Meter. -/
structure Meter where
  enabled : Bool
  interval : Nat
  weight : Nat
  zones : Vector ZoneMeter 8
  timer : Option Nat
  /-- The zones that have still to take the last end of the interval timer, each as an event of its own (R169, log 30). -/
  owing : List Zone
  deriving DecidableEq, Repr

/-! ## Office Link Port -/

/-- STANDBY, RUNNING (R182). -/
inductive OpState where
  | standby
  | running
  deriving DecidableEq, Repr

/-- The receiver of the office link: HUNT, or FRAME with the bytes after A5h (R175). -/
inductive OfficeRx where
  | hunt
  | frame (got : List Byte)
  deriving DecidableEq, Repr

/-- An order in the order queue (R176). -/
structure Order where
  kind : Byte
  tag : Byte
  body : List Byte
  deriving DecidableEq, Repr

/-- An answer: the kind its frame carries, its tag, and its body, which begins with the result code (12.2). -/
structure Answer where
  kind : Byte
  tag : Byte
  body : List Byte
  deriving DecidableEq, Repr

/-- Why a frame is rejected (R175, R177). -/
inductive RejectReason where
  | crc
  | length
  | gap
  | overflow
  deriving DecidableEq, Repr

/-- The cause of a zone change (R101). -/
inductive ZoneCause where
  | order
  | takeOut
  | takeOutClear
  | settled
  | drainCompleted
  | drainTimedOut
  | drainFaulted
  deriving DecidableEq, Repr

/-- The result of a drain (R101). -/
inductive DrainResult where
  | completed
  | timedOut
  | faulted
  deriving DecidableEq, Repr

/-- The kind of a subscriber, as a query or a notice names it (01, 1.1). -/
inductive SubKind where
  | numeric
  | alpha
  | twoWay
  | group
  deriving DecidableEq, Repr

/-- The notices of the part (R178). -/
inductive Notice where
  | frameRejected (reason : RejectReason)
  | noticesLost (count : Nat)
  | started (cause : StartCause) (store : StoreState) (clockSet : Bool)
  | lineOverrun (line : LineId)
  | pageOutcome (reference : Nat) (subscriber : Nat) (via : Option Nat) (outcome : PageOutcome) (units : Nat)
  | lowBalance (account : Nat) (balance : Int) (threshold : Nat)
  | journalHigh (isSet : Bool) (held : Nat) (level : Nat)
  | zoneState (zone : Zone) (before after : ZoneState) (cause : ZoneCause)
  | drainDone (zone : Zone) (result : DrainResult) (aired notAired orphans : Nat)
  | faultChange (zone : Zone) (kind : FaultKind) (latched : Bool) (present : Bool)
  | reply (reference : Nat) (subscriber : Nat) (via : Option Nat) (choice : Nat) (zone : Zone)
  | lateAck (air : Nat) (reference : Nat) (choice : Option Nat) (zone : Zone)
  | unmatchedAck (air : Nat) (reference : Nat) (choice : Option Nat) (zone : Zone) (subscriber : Option Nat)
  | unmatchedRegister (air : Nat) (zone : Zone) (found : Option (Nat × SubKind))
  | congestionChange (zone : Zone) (congested : Bool) (average threshold hysteresis : Nat)
  deriving DecidableEq, Repr

/-- A claimant of the output line (R179). -/
inductive Claim where
  | slot
  | refusal
  | notice
  deriving DecidableEq, Repr

/-- The frame being sent on the office link, with what it carries. -/
structure Sending where
  claim : Claim
  frame : List Byte
  deriving DecidableEq, Repr

/-- Where a RESTART stands: none, arranged by the order, due since its answer has been sent (R183). -/
inductive RestartState where
  | none
  | arranged
  | due
  deriving DecidableEq, Repr

/-- The Office Link Port. -/
structure Port where
  mode : OpState
  rx : OfficeRx
  orders : List Order
  slot : Option Answer
  refusals : List Answer
  /-- The waiting answers in the order in which they became ready (R177). -/
  ready : List Claim
  sending : Option Sending
  notices : List Notice
  lost : Nat
  /-- The level of the LINK-HOLD input; true is high (R179). -/
  linkHold : Bool
  restart : RestartState
  /-- No frame has been begun since the last power-up: STARTED goes first (R184). -/
  silent : Bool
  deriving DecidableEq, Repr

/-! ## The whole part -/

/-- The state of the part. -/
structure State where
  /-- The model's own: the commands waiting, first in first out. -/
  pending : List Instr
  sys : Sys
  port : Port
  intake : Intake
  dir : Directory
  store : PageStore
  money : AccountUnit
  journal : Journal
  sched : Scheduler
  dispatch : DispatchUnit
  arbiter : Vector GroupRec 4
  sites : Sites
  returns : List Report
  meter : Meter
  deriving DecidableEq, Repr

/-- No command ends in a fault: the spec gives every step an effect. -/
inductive Fault where
  deriving DecidableEq, Repr

/-- Why a command is refused. -/
inductive Refusal where
  /-- Raised by an arm of exec whose row has no meaning yet; safe, since nothing is claimed of it. -/
  | notModelled (mnemonic : String)
  deriving DecidableEq, Repr

/-! ## One update for each block -/

def State.setPending (s : State) (x : List Instr) : State := { s with pending := x }
def State.setSys (s : State) (x : Sys) : State := { s with sys := x }
def State.setPort (s : State) (x : Port) : State := { s with port := x }
def State.setIntake (s : State) (x : Intake) : State := { s with intake := x }
def State.setDir (s : State) (x : Directory) : State := { s with dir := x }
def State.setStore (s : State) (x : PageStore) : State := { s with store := x }
def State.setMoney (s : State) (x : AccountUnit) : State := { s with money := x }
def State.setJournal (s : State) (x : Journal) : State := { s with journal := x }
def State.setSched (s : State) (x : Scheduler) : State := { s with sched := x }
def State.setDispatch (s : State) (x : DispatchUnit) : State := { s with dispatch := x }
def State.setArbiter (s : State) (x : Vector GroupRec 4) : State := { s with arbiter := x }
def State.setSites (s : State) (x : Sites) : State := { s with sites := x }
def State.setReturns (s : State) (x : List Report) : State := { s with returns := x }
def State.setMeter (s : State) (x : Meter) : State := { s with meter := x }

/-! ## The values of an empty store and of a start -/

/-- The standard settings of the three classes (03, standard settings). -/
def ClassTable.standard : ClassTable :=
  { emergency := ⟨20, 10, 120, 15, 24, 3, 60, 0, false⟩
    priority := ⟨30, 30, 600, 10, 48, 2, 120, 200, false⟩
    normal := ⟨60, 60, 1800, 6, 72, 1, 300, 1000, false⟩ }

/-- A line after a start, with default settings (R18, R42). -/
def Line.initial : Line :=
  { cls := .caller, rate := 9600, entryTimeout := 15, idleTimeout := 30
    ring := [], written := 0, read := 0, hold := true, overrunNoticed := false
    asm := .closed, overrunLatch := false, paused := false, prompt := none, txd := [], timer := none
    waitLimit := none }

/-- A zone of an empty store after a start (R114, R116). -/
def ZoneRec.initial : ZoneRec :=
  { state := .outOfService, homeGroup := 0, drainTimeout := 10, settleWindow := 5
    emergency := [], priority := [], normal := [], making := none, site := none
    drainTimer := none, pattern := 0, nextBatch := 0 }

/-- A group of an empty store after a start (R125, R127). -/
def GroupRec.initial : GroupRec := { state := .free, pointer := 0, requests := 0, guardTime := 0 }

/-- The five fault kinds of an empty store (R144, R145, R149); LINK_LOST and CARRIER_STUCK are fixed TAKE_OUT (8.5). -/
def FaultRec.initialAll : Vector FaultRec 5 :=
  #v[⟨false, false, true, false⟩, ⟨false, false, true, false⟩, ⟨false, false, false, false⟩,
     ⟨false, false, false, false⟩, ⟨false, false, false, false⟩]

/-- A link of an empty store after a start (R149): ST is 0 (R138). -/
def LinkRec.initial : LinkRec :=
  { st := false, ra := none, last := none, resyncPending := true, batch := .none
    silence := none, resync := none, take := none, carrier := none, settle := none
    discarded := 0, window := 3, faults := FaultRec.initialAll, rx := .hunt
    pollDue := none, pollWaiting := false, sendingBatch := false, nextFrame := none, tx := [] }

/-- A zone's meter at its defaults after a start (R171, R174). -/
def ZoneMeter.initial : ZoneMeter :=
  { threshold := 120, hysteresis := 20, count := 0, sample := 0, peak := 0, average := 0, congested := false }

/-- The meter at its defaults after a start (10, standard settings). -/
def Meter.initial : Meter :=
  { enabled := false, interval := 5, weight := 3, zones := Vector.replicate 8 ZoneMeter.initial, timer := none
    owing := [] }

/-- An empty directory (R17). -/
def Directory.initial : Directory := { subs := [], blocks := Vector.replicate 8 none, airMap := [] }

/-- An empty journal (R94). -/
def Journal.initial : Journal := { records := [], nextSeq := 1, level := 1792, high := false }

/-- The STARTED frame of a power-up with an empty store, written out by 12.2: A5h, length 5, kind C3h, tag 0, cause
POWER_UP, store EMPTY, clock UNSET, CRC (R183, R184, R186). -/
def startedEmptyFrame : List Byte := [0xA5, 0x00, 0x05, 0xC3, 0x00, 0x00, 0x00, 0x00, 0x6F, 0xA5]

/-- The part right after its first power-up with an empty store (R184, log 1): in STANDBY, its tables empty, its
settings at their defaults, STARTED on the output line. -/
def State.reset : State :=
  { pending := []
    sys := { base := 0, clock := none, retention := true, rate := .r115200, storeFound := .empty, lastCause := .powerUp }
    port :=
      { mode := .standby, rx := .hunt, orders := [], slot := none, refusals := [], ready := []
        sending := some ⟨.notice, startedEmptyFrame⟩, notices := [], lost := 0, linkHold := true, restart := .none
        silent := false }
    intake := { lines := Vector.replicate 16 Line.initial, phrases := [], waitList := [], announcements := 0 }
    dir := Directory.initial
    store := { pages := [], refCounter := 1, mailboxes := [] }
    money := { accounts := [], plans := [] }
    journal := Journal.initial
    sched := { retryDue := [], ackDeadline := [], expiry := [], classes := ClassTable.standard }
    dispatch := { zones := Vector.replicate 8 ZoneRec.initial, ticketWait := [] }
    arbiter := Vector.replicate 4 GroupRec.initial
    sites := { links := Vector.replicate 8 LinkRec.initial, alarmA := ⟨0, false⟩, alarmB := ⟨0, false⟩ }
    returns := []
    meter := Meter.initial }

end Sys2Proof.Machine
end

