-- ==== Sys2Proof/Machine/Bytes.lean ====
section
/-! DEFINITION. Machine/Bytes.lean: byte order, the CRC, the frames of both links (12), and reading bytes from a body. -/

namespace Sys2Proof.Machine

/-! ## Numbers and bytes -/

/-- n bytes, most significant first (R186). -/
def be : Nat → Nat → List Byte
  | 0, _ => []
  | n + 1, x => BitVec.ofNat 8 (x / 256 ^ n) :: be n x

/-- n bytes of a signed value in two's complement, most significant first (R186). -/
def beSigned (n : Nat) (x : Int) : List Byte := be n (x % (256 ^ n : Nat)).toNat

/-- The number that bytes give, most significant first. -/
def natOf (bytes : List Byte) : Nat := bytes.foldl (fun acc b => acc * 256 + b.toNat) 0

/-- The signed number that n bytes give in two's complement. -/
def intOf (bytes : List Byte) : Int :=
  let x := natOf bytes
  if x < 256 ^ bytes.length / 2 then x else (x : Int) - (256 ^ bytes.length : Nat)

/-- An optional field of n bytes: the presence byte, then the field, as 0 when not present (R188). -/
def optField (n : Nat) : Option Nat → List Byte
  | some x => 1 :: be n x
  | none => 0 :: be n 0

/-- A yes or no field (12.2, codes). -/
def yesNo (b : Bool) : Byte := if b then 1 else 0

/-! ## The CRC (R186) -/

/-- One bit step of the CRC register with polynomial 1021h. -/
def crcBit (r : BitVec 16) : BitVec 16 :=
  if r.msb then (r <<< 1) ^^^ 0x1021#16 else r <<< 1

/-- One byte enters the CRC register, most significant bit first. -/
def crcByte (r : BitVec 16) (b : Byte) : BitVec 16 :=
  let r := r ^^^ (b.zeroExtend 16 <<< 8)
  crcBit (crcBit (crcBit (crcBit (crcBit (crcBit (crcBit (crcBit r)))))))

/-- The CRC-16 of some bytes: the register starts at FFFFh, and the result is neither reflected nor inverted (R186). -/
def crc16 (bytes : List Byte) : BitVec 16 := bytes.foldl crcByte 0xFFFF#16

/-- Bytes closed by their CRC, high byte first (R186). -/
def withCrc (bytes : List Byte) : List Byte := bytes ++ be 2 (crc16 bytes).toNat

/-- An office frame: A5h, length, kind, tag, body, CRC (12.2). -/
def officeFrame (kind tag : Byte) (body : List Byte) : List Byte :=
  0xA5 :: withCrc (be 2 (body.length + 2) ++ (kind :: tag :: body))

/-- A site frame: C3h, length, kind, body, CRC (12.3). -/
def siteFrame (kind : Byte) (body : List Byte) : List Byte :=
  0xC3 :: withCrc (be 2 (body.length + 1) ++ (kind :: body))

/-! ## Reading fields from a body: each reader gives the value and the bytes that follow -/

/-- A numeric field of n bytes. -/
def takeNat (n : Nat) (body : List Byte) : Option (Nat × List Byte) :=
  if body.length < n then none else some (natOf (body.take n), body.drop n)

/-- An optional field of n bytes behind its presence byte: the presence byte, the value, the rest (R188). -/
def takeOpt (n : Nat) (body : List Byte) : Option (Nat × Nat × List Byte) :=
  match takeNat 1 body with
  | none => none
  | some (p, rest) =>
    match takeNat n rest with
    | none => none
    | some (x, rest) => some (p, x, rest)

/-- Fields of the given widths, with nothing before, between or behind them. -/
def readFields : List Nat → List Byte → Option (List Nat)
  | [], [] => some []
  | [], _ :: _ => none
  | w :: ws, body =>
    match takeNat w body with
    | none => none
    | some (x, rest) => (readFields ws rest).map (x :: ·)

/-- The body that fields of the given widths make. -/
def writeFields : List Nat → List Nat → List Byte
  | w :: ws, x :: xs => be w x ++ writeFields ws xs
  | _, _ => []

/-- A list of 2-byte entries behind a count of them, taking the rest of the body (R188). -/
def readPairs : Nat → List Byte → Option (List Nat)
  | 0, [] => some []
  | 0, _ :: _ => none
  | n + 1, body =>
    match takeNat 2 body with
    | none => none
    | some (x, rest) => (readPairs n rest).map (x :: ·)

/-- A counted list of 2-byte entries that ends the body (R188). -/
def readList (body : List Byte) : Option (List Nat) :=
  match takeNat 1 body with
  | none => none
  | some (n, rest) => readPairs n rest

/-- A text behind its length byte that ends the body; a length above the limit is malformed (R187, R188). -/
def readText (limit : Nat) (body : List Byte) : Option (List Byte) :=
  match takeNat 1 body with
  | none => none
  | some (n, rest) => if n ≤ limit ∧ rest.length = n then some rest else none

end Sys2Proof.Machine
end

