-- ==== Sys2Proof/Machine/Tables.lean ====
section
/-! DEFINITION. Machine/Tables.lean: reading and writing sparse tables, banks of records, sets of zones and
time-ordered lists. Every table of the part is read and written here and nowhere else. -/

namespace Sys2Proof.Machine

/-- The value a key holds, if it is listed. -/
def Table.get {α : Type} : Table α → Nat → Option α
  | [], _ => none
  | (k', v) :: rest, k => if k' = k then some v else Table.get rest k

/-- The table with a key set to a value, keys kept strictly rising. -/
def Table.set {α : Type} : Table α → Nat → α → Table α
  | [], k, v => [(k, v)]
  | (k', v') :: rest, k, v =>
    if k < k' then (k, v) :: (k', v') :: rest
    else if k = k' then (k, v) :: rest
    else (k', v') :: Table.set rest k v

/-- The table without a key. -/
def Table.erase {α : Type} (t : Table α) (k : Nat) : Table α := t.filter fun e => e.1 != k

/-- The table with a listed key's value changed; a key not listed stays so. -/
def Table.modify {α : Type} (t : Table α) (k : Nat) (f : α → α) : Table α :=
  match Table.get t k with
  | some v => Table.set t k (f v)
  | none => t

/-- Whether a key is listed. -/
def Table.has {α : Type} (t : Table α) (k : Nat) : Bool := (Table.get t k).isSome

/-- The canonical form: keys strictly rising. -/
abbrev Table.wf {α : Type} (t : Table α) : Prop := (t.map Prod.fst).Pairwise (· < ·)

/-- A bank of records with every record changed by its number. -/
def bankMap {α β : Type} {n : Nat} (v : Vector α n) (f : Fin n → α → β) : Vector β n :=
  Vector.ofFn fun i => f i v[i]

/-- The number of entries of a list that satisfy a test. -/
def countWhere {α : Type} (l : List α) (p : α → Bool) : Nat := (l.filter p).length

/-- Whether a zone is in a set of zones (R188). -/
def ZoneSet.mem (s : ZoneSet) (z : Zone) : Bool := s.getLsbD z.val

/-- The set with a zone added. -/
def ZoneSet.add (s : ZoneSet) (z : Zone) : ZoneSet := s ||| (1#8 <<< z.val)

/-- The set with a zone taken out. -/
def ZoneSet.remove (s : ZoneSet) (z : Zone) : ZoneSet := s &&& ~~~(1#8 <<< z.val)

/-- All eight zones in ascending number. -/
def allZones : List Zone := List.finRange 8

/-- The zones of a set in ascending number. -/
def ZoneSet.zones (s : ZoneSet) : List Zone := allZones.filter fun z => ZoneSet.mem s z

/-- A time-ordered list with an entry placed behind every entry of the same or an earlier time (R154). -/
def timeInsert : List (Nat × Nat) → Nat → Nat → List (Nat × Nat)
  | [], t, r => [(t, r)]
  | e :: rest, t, r => if t < e.1 then (t, r) :: e :: rest else e :: timeInsert rest t r

/-- A time-ordered list without a reference (R53). -/
def timeRemove (l : List (Nat × Nat)) (r : Nat) : List (Nat × Nat) := l.filter fun e => e.2 != r

/-! ## Named parts of the state -/

/-- A zone's record. -/
def State.zone (s : State) (z : Zone) : ZoneRec := s.dispatch.zones[z]

/-- The state with a zone's record replaced. -/
def State.setZone (s : State) (z : Zone) (x : ZoneRec) : State :=
  s.setDispatch { s.dispatch with zones := s.dispatch.zones.set z x }

/-- A line's record. -/
def State.line (s : State) (l : LineId) : Line := s.intake.lines[l]

/-- The state with a line's record replaced. -/
def State.setLine (s : State) (l : LineId) (x : Line) : State :=
  s.setIntake { s.intake with lines := s.intake.lines.set l x }

/-- A site link's record. -/
def State.link (s : State) (z : Zone) : LinkRec := s.sites.links[z]

/-- The state with a site link's record replaced. -/
def State.setLink (s : State) (z : Zone) (x : LinkRec) : State :=
  s.setSites { s.sites with links := s.sites.links.set z x }

/-- A frequency group's record. -/
def State.group (s : State) (g : GroupId) : GroupRec := s.arbiter[g]

/-- The state with a group's record replaced. -/
def State.setGroup (s : State) (g : GroupId) (x : GroupRec) : State := s.setArbiter (s.arbiter.set g x)

/-- A zone's meter. -/
def State.zoneMeter (s : State) (z : Zone) : ZoneMeter := s.meter.zones[z]

/-- The state with a zone's meter replaced. -/
def State.setZoneMeter (s : State) (z : Zone) (x : ZoneMeter) : State :=
  s.setMeter { s.meter with zones := s.meter.zones.set z x }

/-- A live page's record. -/
def State.page (s : State) (r : Nat) : Option Page := Table.get s.store.pages r

/-- The state with a live page's record changed. -/
def State.modifyPage (s : State) (r : Nat) (f : Page → Page) : State :=
  s.setStore { s.store with pages := Table.modify s.store.pages r f }

/-- A defined subscriber's record. -/
def State.sub (s : State) (i : Nat) : Option Subscriber := Table.get s.dir.subs i

/-- A defined account's record. -/
def State.account (s : State) (a : Nat) : Option Account := Table.get s.money.accounts a

/-- The state with a defined account's record changed. -/
def State.modifyAccount (s : State) (a : Nat) (f : Account → Account) : State :=
  s.setMoney { s.money with accounts := Table.modify s.money.accounts a f }

/-- A DEFINED plan. -/
def State.plan (s : State) (p : Nat) : Option Plan := Table.get s.money.plans p

/-- The state with a DEFINED plan changed. -/
def State.modifyPlan (s : State) (p : Nat) (f : Plan → Plan) : State :=
  s.setMoney { s.money with plans := Table.modify s.money.plans p f }

/-- A subscriber's hold mailbox, oldest first (R57). -/
def State.mailbox (s : State) (i : Nat) : List Nat := (Table.get s.store.mailboxes i).getD []

/-- The state with a subscriber's mailbox replaced; an empty mailbox is not listed. -/
def State.setMailbox (s : State) (i : Nat) (refs : List Nat) : State :=
  s.setStore
    { s.store with
      mailboxes := if refs.isEmpty then Table.erase s.store.mailboxes i else Table.set s.store.mailboxes i refs }

/-- The parameters of a class. -/
def ClassTable.get (t : ClassTable) : PageClass → ClassParams
  | .emergency => t.emergency
  | .priority => t.priority
  | .normal => t.normal

/-- The table with the parameters of a class replaced. -/
def ClassTable.set (t : ClassTable) (c : PageClass) (p : ClassParams) : ClassTable :=
  match c with
  | .emergency => { t with emergency := p }
  | .priority => { t with priority := p }
  | .normal => { t with normal := p }

/-- The parameters of a class as they stand. -/
def State.params (s : State) (c : PageClass) : ClassParams := s.sched.classes.get c

end Sys2Proof.Machine
end

