-- ==== Sys2Proof/Machine/Codes.lean ====
section
/-! DEFINITION. Machine/Codes.lean: the codes of enumerated fields (12.2; any other field from 00h in the order its rule
lists its values, R188, log 9), result codes, and the bodies of notices (12.2, R188). -/

namespace Sys2Proof.Machine

/-! ## Codes the part sends -/

def PageClass.code : PageClass → Byte
  | .emergency => 0
  | .priority => 1
  | .normal => 2

def BodyKind.code : BodyKind → Byte
  | .tone => 0
  | .numeric => 1
  | .alpha => 2

def PageOutcome.code : PageOutcome → Byte
  | .delivered => 0
  | .expired => 1
  | .cancelled => 2
  | .undeliverable => 3

/-- The number of an intake code, 1 to 13. -/
def ECode.number : ECode → Nat
  | .e01 => 1
  | .e02 => 2
  | .e03 => 3
  | .e04 => 4
  | .e05 => 5
  | .e06 => 6
  | .e07 => 7
  | .e08 => 8
  | .e09 => 9
  | .e10 => 10
  | .e11 => 11
  | .e12 => 12
  | .e13 => 13

def RejectReason.code : RejectReason → Byte
  | .crc => 0
  | .length => 1
  | .gap => 2
  | .overflow => 3

def StartCause.code : StartCause → Byte
  | .powerUp => 0
  | .restart => 1
  | .reset => 2

/-- The codes of 12.2 for STARTED, and IDENTIFY's too (log 46). -/
def StoreState.code : StoreState → Byte
  | .empty => 0
  | .valid => 1

def OpState.code : OpState → Byte
  | .standby => 0
  | .running => 1

def LineClass.code : LineClass → Byte
  | .caller => 0
  | .console => 1

def Assembler.code : Assembler → Byte
  | .closed => 0
  | .awaitNumber => 1
  | .number _ => 2
  | .awaitBody _ => 3
  | .body _ _ => 4
  | .admitWait _ _ _ => 5
  | .skip => 6

def PageState.code : PageState → Byte
  | .waitTicket => 0
  | .attempt => 1
  | .awaitAck => 2
  | .retryWait => 3
  | .held => 4

def ZoneState.code : ZoneState → Byte
  | .outOfService => 0
  | .settling => 1
  | .inService => 2
  | .draining => 3
  | .faulted => 4

def ZoneCause.code : ZoneCause → Byte
  | .order => 0
  | .takeOut => 1
  | .takeOutClear => 2
  | .settled => 3
  | .drainCompleted => 4
  | .drainTimedOut => 5
  | .drainFaulted => 6

def DrainResult.code : DrainResult → Byte
  | .completed => 0
  | .timedOut => 1
  | .faulted => 2

def FaultKind.code : FaultKind → Byte
  | .linkLost => 0
  | .carrierStuck => 1
  | .fwdPowerLow => 2
  | .reflectedHigh => 3
  | .siteAlarm => 4

def SubState.code : SubState → Byte
  | .active => 1
  | .suspended => 2

def SubKind.code : SubKind → Byte
  | .numeric => 0
  | .alpha => 1
  | .twoWay => 2
  | .group => 3

/-- An origin: the line's number, or the first code above them for OFFICE_LINK (R188). -/
def Origin.code : Origin → Byte
  | .line l => BitVec.ofNat 8 l.val
  | .officeLink => 16

/-- A field that is on or off, set or cleared, enabled or disabled, congested or clear: the first listed is 00h (R188). -/
def firstListed (b : Bool) : Byte := if b then 0 else 1

def ZoneState.takesTickets : ZoneState → Bool
  | .settling => true
  | .inService => true
  | _ => false

/-- The kind of a record as 1.1 names it. -/
def Subscriber.kind (u : Subscriber) : SubKind :=
  match u.body with
  | .group _ => .group
  | .pager p =>
    match p.kind with
    | .numeric => .numeric
    | .alpha => .alpha
    | .twoWay => .twoWay

/-! ## The tokens of the prompts (R25) -/

/-- A number's last decimal digits, most significant first, in ASCII. -/
def decimals : Nat → Nat → List Byte
  | 0, _ => []
  | places + 1, n => BitVec.ofNat 8 (0x30 + n / 10 ^ places % 10) :: decimals places n

/-- A number in decimal without leading zeros, in ASCII. -/
def decimal (n : Nat) : List Byte := decimals (Nat.toDigits 10 n).length n

/-- The token of a prompt, ended by CR (R25): N, M, A with the first reference in five digits and the count, E with the code in
two digits, T, X. -/
def Prompt.token : Prompt → List Byte
  | .n => [0x4E, 0x0D]
  | .m => [0x4D, 0x0D]
  | .a reference count => [0x41, 0x20] ++ decimals 5 reference ++ [0x20] ++ decimal count ++ [0x0D]
  | .e code => [0x45, 0x20] ++ decimals 2 code.number ++ [0x0D]
  | .t => [0x54, 0x0D]
  | .x => [0x58, 0x0D]

/-! ## Codes the part receives -/

/-- A number within the range of its type. -/
def finOf (n : Nat) (x : Nat) : Option (Fin n) := if h : x < n then some ⟨x, h⟩ else none

def classOf : Nat → Option PageClass
  | 0 => some .emergency
  | 1 => some .priority
  | 2 => some .normal
  | _ => none

def yesNoOf : Nat → Option Bool
  | 0 => some false
  | 1 => some true
  | _ => none

def firstListedOf : Nat → Option Bool
  | 0 => some true
  | 1 => some false
  | _ => none

def faultKindOf : Nat → Option FaultKind
  | 0 => some .linkLost
  | 1 => some .carrierStuck
  | 2 => some .fwdPowerLow
  | 3 => some .reflectedHigh
  | 4 => some .siteAlarm
  | _ => none

/-- The place of a fault kind in the table of 8.5. -/
def FaultKind.index : FaultKind → Fin 5
  | .linkLost => 0
  | .carrierStuck => 1
  | .fwdPowerLow => 2
  | .reflectedHigh => 3
  | .siteAlarm => 4

/-- The five kinds in the order of the table of 8.5. -/
def allFaultKinds : List FaultKind := [.linkLost, .carrierStuck, .fwdPowerLow, .reflectedHigh, .siteAlarm]

/-! ## Results (R177) -/

/-- What an order answers, but for QUEUE-FULL, which no executed order gives. -/
inductive Result where
  | done (fields : List Byte)
  | badForm
  | badValue
  | unknown
  | inUse
  | full
  | state
  | notRunning
  | refused (code : ECode)
  deriving DecidableEq, Repr

/-- The answer body of a result (12.2). -/
def Result.body : Result → List Byte
  | .done fields => 0x00 :: fields
  | .badForm => [0x01]
  | .badValue => [0x02]
  | .unknown => [0x03]
  | .inUse => [0x04]
  | .full => [0x05]
  | .state => [0x06]
  | .notRunning => [0x07]
  | .refused e => [0x09, BitVec.ofNat 8 e.number]

/-! ## Notices (12.2, R188) -/

/-- Notice kinds C1h to CFh in the order of R178. -/
def Notice.kind : Notice → Byte
  | .frameRejected _ => 0xC1
  | .noticesLost _ => 0xC2
  | .started _ _ _ => 0xC3
  | .lineOverrun _ => 0xC4
  | .pageOutcome _ _ _ _ _ => 0xC5
  | .lowBalance _ _ _ => 0xC6
  | .journalHigh _ _ _ => 0xC7
  | .zoneState _ _ _ _ => 0xC8
  | .drainDone _ _ _ _ _ => 0xC9
  | .faultChange _ _ _ _ => 0xCA
  | .reply _ _ _ _ _ => 0xCB
  | .lateAck _ _ _ _ => 0xCC
  | .unmatchedAck _ _ _ _ _ => 0xCD
  | .unmatchedRegister _ _ _ => 0xCE
  | .congestionChange _ _ _ _ _ => 0xCF

/-- The kind of an ACK and its choice, which is given for a REPLY only (R152). -/
def ackKindFields : Option Nat → List Byte
  | none => 0 :: optField 1 none
  | some c => 1 :: optField 1 (some c)

/-- The number of a zone, a line or a group as a byte. -/
def numByte {n : Nat} (x : Fin n) : Byte := BitVec.ofNat 8 x.val

/-- The body of a notice. The index and the kind of UNMATCHED-REGISTER stand each behind a presence byte of its own (the model's choice,
log 56). -/
def Notice.body : Notice → List Byte
  | .frameRejected reason => [reason.code]
  | .noticesLost count => be 2 count
  | .started cause store clockSet => [cause.code, store.code, yesNo clockSet]
  | .lineOverrun line => [numByte line]
  | .pageOutcome reference subscriber via outcome units =>
    be 2 reference ++ be 2 subscriber ++ optField 2 via ++ [outcome.code] ++ be 4 units
  | .lowBalance account balance threshold => be 2 account ++ beSigned 4 balance ++ be 4 threshold
  | .journalHigh isSet held level => firstListed isSet :: (be 2 held ++ be 2 level)
  | .zoneState zone before after cause => [numByte zone, before.code, after.code, cause.code]
  | .drainDone zone result aired notAired orphans =>
    numByte zone :: result.code :: (be 1 aired ++ be 1 notAired ++ be 1 orphans)
  | .faultChange zone kind latched present => [numByte zone, kind.code, firstListed latched, yesNo present]
  | .reply reference subscriber via choice zone =>
    be 2 reference ++ be 2 subscriber ++ optField 2 via ++ be 1 choice ++ [numByte zone]
  | .lateAck air reference choice zone => be 3 air ++ be 2 reference ++ ackKindFields choice ++ [numByte zone]
  | .unmatchedAck air reference choice zone subscriber =>
    be 3 air ++ be 2 reference ++ ackKindFields choice ++ [numByte zone] ++ optField 2 subscriber
  | .unmatchedRegister air zone found =>
    be 3 air ++ [numByte zone] ++ optField 2 (found.map Prod.fst)
      ++ optField 1 (found.map fun f => f.2.code.toNat)
  | .congestionChange zone congested average threshold hysteresis =>
    numByte zone :: firstListed congested :: (be 2 average ++ be 2 threshold ++ be 2 hysteresis)

/-- The frame of a notice; every notice carries tag 0 (R178). -/
def Notice.frame (n : Notice) : List Byte := officeFrame n.kind 0 n.body

/-- The frame of an answer. -/
def Answer.frame (a : Answer) : List Byte := officeFrame a.kind a.tag a.body

end Sys2Proof.Machine
end

