-- ==== Sys2Proof/Machine/Operands.lean ====
section
/-! DEFINITION. Machine/Operands.lean: the operands of orders, read from the fields of a body: presence bytes, ranges, and
the groups of fields that several orders share (R187, R188, logs 10 and 13). Every reader gives nothing where R187 calls for
BAD-VALUE. -/

namespace Sys2Proof.Machine

/-- An optional field: absent, or present with its value; any other presence byte is out of range (R188). -/
def optionalField (p x : Nat) : Option (Option Nat) :=
  match p with
  | 0 => some none
  | 1 => some (some x)
  | _ => none

/-- A field that the order's kind calls for. -/
def neededField (p x : Nat) : Option Nat := if p = 1 then some x else none

/-- A number within a range. -/
def within (low high x : Nat) : Option Nat := if low ≤ x ∧ x ≤ high then some x else none

/-- No index stands twice. -/
def noRepeat : List Nat → Bool
  | [] => true
  | x :: rest => !rest.contains x && noRepeat rest

/-- A subscriber index, an account id, an air address (00_scope.md, 1.1). -/
def subscriberIndex (x : Nat) : Option Nat := within 0 4095 x
def accountId (x : Nat) : Option Nat := within 0 1023 x
def airAddress (x : Nat) : Option Nat := within 0 4194303 x
def planId (x : Nat) : Option Nat := within 0 31 x

/-- A default class, NORMAL or PRIORITY (1.1). -/
def defaultClassOf (x : Nat) : Option PageClass :=
  match classOf x with
  | some .emergency => none
  | c => c

/-- A roaming set for a home zone: at most four zones, the home zone not among them (R1, R11). -/
def roamingSet (home : Zone) (x : Nat) : Option ZoneSet :=
  let roam : ZoneSet := BitVec.ofNat 8 x
  if (ZoneSet.zones roam).length ≤ 4 ∧ ZoneSet.mem roam home = false then some roam else none

/-- The fields of a pager as SUB-DEFINE and SUB-ALTER carry them, each behind its presence byte (R11, R12): the air
address, the home zone, the roaming set and the hold choice, yes for TWO_WAY only. -/
structure PagerFields where
  air : Nat
  home : Zone
  roaming : ZoneSet
  hold : Bool
  deriving DecidableEq, Repr

/-- The pager fields, all present and in range. -/
def pagerFields (kind : PagerKind) (pAir air pHome home pRoam roam pHold hold : Nat) : Option PagerFields := do
  let air ← airAddress (← neededField pAir air)
  let home ← finOf 8 (← neededField pHome home)
  let roaming ← roamingSet home (← neededField pRoam roam)
  let hold ← yesNoOf (← neededField pHold hold)
  if hold && kind != .twoWay then none else some ⟨air, home, roaming, hold⟩

/-- A members list: 1 to 16 indexes in range, none twice, the group's own not among them (R11, R15). -/
def membersList (own : Nat) (members : List Nat) : Option (List Nat) :=
  if 1 ≤ members.length ∧ members.length ≤ 16 ∧ noRepeat members ∧ members.all (fun m => decide (m ≤ 4095))
      ∧ ¬ members.contains own then some members
  else none

/-- A field that names a zone or ALL, ALL being the first code above the zones (R188). -/
def zonesOrAll (x : Nat) : Option (List Zone) :=
  if x = 8 then some allZones else (finOf 8 x).map fun z => [z]

/-- A field that names a fault kind or ALL (R146, R188). -/
def kindsOrAll (x : Nat) : Option (List FaultKind) :=
  if x = 5 then some allFaultKinds else (faultKindOf x).map fun k => [k]

/-- The six bit rates of an intake line (R18), read as numbers (log 40). -/
def lineRateOf (x : Nat) : Option Nat := if [1200, 2400, 4800, 9600, 19200, 38400].contains x then some x else none

/-- The money fields an account order gives for a kind: PREPAID takes the low threshold, present or absent, and POSTPAID the
credit limit (R73, R74). -/
def prepaidThreshold (pThr thr pLim : Nat) : Option (Option Nat) :=
  if pLim = 0 then
    match optionalField pThr thr with
    | some (some t) => if t ≤ 2147483647 then some (some t) else none
    | r => r
  else none

def postpaidLimit (pThr pLim lim : Nat) : Option Nat := if pThr = 0 then neededField pLim lim else none

/-- The nine class parameters in the order of the table of 3.9, each in its range (R60). -/
def classParamsOf (c : PageClass) : List Nat → Option ClassParams
  | [ack, base, cap, limit, life, repeats, interval, hold, notices] => do
    let ack ← within 10 120 ack
    let base ← within 10 600 base
    let cap ← within 60 7200 cap
    let limit ← within 1 15 limit
    let life ← within 1 168 life
    let repeats ← within 1 4 repeats
    let interval ← within 30 600 interval
    let hold ← within 0 2000 hold
    let notices ← firstListedOf notices
    if cap < base then none
    else if hold % 50 ≠ 0 then none
    else if c == .emergency && hold != 0 then none
    else some ⟨ack, base, cap, limit, life, repeats, interval, hold, notices⟩
  | _ => none

/-- The thresholds and hystereses of METER-CONFIG, zone by zone: a threshold of at least 1, a hysteresis below it (R171). -/
def meterPairs : List Nat → Option (List (Nat × Nat))
  | [] => some []
  | t :: h :: rest => if 1 ≤ t ∧ h < t then (meterPairs rest).map ((t, h) :: ·) else none
  | [_] => none

end Sys2Proof.Machine
end

