-- ==== Sys2Proof/Machine/Flags.lean ====
section
/-! DEFINITION. Machine/Flags.lean: how every flag, condition and output of the part is computed. Each is a function of
the values it depends on; the operations write what these give. -/

namespace Sys2Proof.Machine

/-! ## Intake lines -/

/-- Unread bytes of a ring: the write count minus the read count, modulo 65,536 (R19). -/
def Line.fill (l : Line) : Nat := (l.written - l.read).toNat

/-- HOLD after an arrival that leaves a fill (R20). -/
def holdAfterArrival (fill : Nat) (hold : Bool) : Bool := decide (Config.holdOn ≤ fill) || hold

/-- HOLD after a consumption that leaves a fill (R20). -/
def holdAfterConsumption (fill : Nat) (hold : Bool) : Bool := hold && !decide (fill ≤ Config.holdOff)

/-! ## Journal -/

/-- JOURNAL-HIGH: set while the records are at or above the level (R89). -/
def journalHighOf (records level : Nat) : Bool := decide (level ≤ records)

/-! ## Accounts -/

/-- LOW-BALANCE is due: a threshold is present, the balance is below it and no notice has been given (R72). -/
def Money.lowDue : Money → Option (Int × Nat)
  | .prepaid balance (some threshold) false => if balance < threshold then some (balance, threshold) else none
  | _ => none

/-- The money fields with low-notice given written. -/
def Money.withNotice (given : Bool) : Money → Money
  | .prepaid balance threshold _ => .prepaid balance threshold given
  | .postpaid limit => .postpaid limit

/-! ## Meters -/

/-- The congested flag for an average against a threshold and a hysteresis (R170). -/
def congestedAfter (average threshold hysteresis : Nat) (before : Bool) : Bool :=
  if threshold ≤ average then true
  else if average + hysteresis < threshold then false
  else before

/-! ## Site faults -/

/-- The fault record of a kind. -/
def LinkRec.fault (l : LinkRec) (k : FaultKind) : FaultRec := l.faults[k.index]

/-- The link with the fault record of a kind replaced. -/
def LinkRec.setFault (l : LinkRec) (k : FaultKind) (f : FaultRec) : LinkRec :=
  { l with faults := l.faults.set k.index f }

/-- The zone has a take-out condition present (R96). -/
def LinkRec.takeOutPresent (l : LinkRec) : Bool :=
  allFaultKinds.any fun k => (l.fault k).present && (l.fault k).takeOut

/-- An output is asserted by its map, the latched flags and the journal condition (R142). -/
def alarmOf (map : BitVec 6) (links : Vector LinkRec 8) (high : Bool) : Bool :=
  (allZones.any fun z => allFaultKinds.any fun k => map.getLsbD k.index.val && ((links[z]).fault k).latched)
    || (map.getLsbD 5 && high)

/-! ## Tickets and batches -/

/-- Started groups of a size: the length divided by the size, rounded up (R67, R102; against R67's example, log 42). -/
def started (size length : Nat) : Nat := (length + size - 1) / size

/-- The slot cost of a body (R102). -/
def slotCost : BodyKind → Nat → Nat
  | .tone, _ => 1
  | .numeric, n => 1 + started 10 n
  | .alpha, n => 1 + started 5 n

/-- The total slot cost of some tickets. -/
def slotsOf (tickets : List Ticket) : Nat := (tickets.map (·.cost)).sum

/-- Some ticket is of a class. -/
def holdsClass (c : PageClass) (tickets : List Ticket) : Bool := tickets.any fun t => t.cls == c

/-- The highest class among some tickets (R109). -/
def highestClass (tickets : List Ticket) : PageClass :=
  if holdsClass .emergency tickets then .emergency
  else if holdsClass .priority tickets then .priority
  else .normal

/-- The time at which a batch's hold runs out (R109), by the holds in force when it opened (R61). -/
def MakingBatch.holdEnds (b : MakingBatch) : Nat :=
  match highestClass b.tickets with
  | .emergency => b.opened
  | .priority => b.opened + b.priorityHold
  | .normal => b.opened + b.normalHold

/-- A body classed by its contents (R32). -/
def bodyKindOf (text : List Byte) : BodyKind :=
  if text.isEmpty then .tone
  else if text.all fun c => (decide (0x30 ≤ c.toNat) && decide (c.toNat ≤ 0x39)) || c == 0x20#8 || c == 0x2D#8 then .numeric
  else .alpha

/-- Printable ASCII, 20h to 7Eh. -/
def printable (c : Byte) : Bool := decide (0x20 ≤ c.toNat) && decide (c.toNat ≤ 0x7E)

/-- A digit. -/
def isDigit (c : Byte) : Bool := decide (0x30 ≤ c.toNat) && decide (c.toNat ≤ 0x39)

/-- The value of a digit. -/
def digitValue (c : Byte) : Nat := c.toNat - 0x30

end Sys2Proof.Machine
end

