-- ==== Sys2Proof/Machine/Ops.lean ====
section
/-! DEFINITION. Machine/Ops.lean: the operations that several blocks share: time, notices, the output line, the execution of
an order, journal appends, alarm outputs, and the counts other blocks are tested against. The part has no exception
entry; what raises a flag or a notice does so through these. -/

namespace Sys2Proof.Machine

/-- What a command answers. -/
abbrev Out := Host.Outcome State Fault Refusal

/-! ## Time (R180, log 3) -/

/-- The part is in RUNNING. -/
def State.running (s : State) : Bool := s.port.mode == .running

/-- The office clock's milliseconds, 0 while UNSET (log 28). -/
def State.now (s : State) : Nat := s.sys.clock.getD 0

/-- The office clock's seconds. -/
def State.seconds (s : State) : Nat := s.now / 1000

/-- An office-clock time in milliseconds; a time beyond the clock's last value is that value (R180). -/
def clockTime (t : Nat) : Nat := min t Config.clockMax

/-- An office-clock time in seconds, bounded likewise. -/
def clockSeconds (t : Nat) : Nat := min t 4294967295

/-- Time passes on both clocks; an UNSET clock does not run (R180). -/
def elapse (s : State) (ms : Nat) : State :=
  s.setSys { s.sys with base := s.sys.base + ms, clock := s.sys.clock.map fun c => clockTime (c + ms) }

/-- Time passes up to an end time on the time base; none passes when it is behind. -/
def elapseTo (s : State) (ends : Nat) : State := elapse s (ends - s.sys.base)

/-- Time passes until the office clock reaches a time. -/
def elapseUntil (s : State) (due : Nat) : State := elapse s (due - s.now)

/-! ## Notices (R178) -/

/-- A notice is raised. -/
def raise (s : State) (n : Notice) : State :=
  let p := s.port
  if p.lost = 0 then
    if p.notices.length < Config.noticePlaces then s.setPort { p with notices := p.notices ++ [n] }
    else s.setPort { p with lost := 1 }
  else if p.notices.length + 2 ≤ Config.noticePlaces then
    s.setPort { p with notices := p.notices ++ [.noticesLost p.lost, n], lost := 0 }
  else s.setPort { p with lost := min 65535 (p.lost + 1) }

/-! ## The output line (R179) -/

/-- The port once it has begun the frame of a claimant. -/
def Port.send (p : Port) (c : Claim) (frame : List Byte) : Port := { p with sending := some ⟨c, frame⟩, silent := false }

/-- The port once it has begun the head notice, which leaves the queue (R179). -/
def Port.sendNotice (p : Port) : Port :=
  match p.notices with
  | n :: rest => { p.send .notice n.frame with notices := rest }
  | [] => p

/-- The port once a free line has begun its next frame: the earliest ready answer, which keeps its place until its last byte is
sent (R176, log 7), else the head notice (R179). The first frame after a power-up is STARTED, ahead of an answer that waits
(R184; before R179's order by log 48). -/
def Port.beginFrame (p : Port) : Port :=
  if p.silent && !p.notices.isEmpty then p.sendNotice
  else
    match p.ready with
    | .slot :: _ =>
      match p.slot with
      | some a => p.send .slot a.frame
      | none => p
    | .refusal :: _ =>
      match p.refusals with
      | a :: _ => p.send .refusal a.frame
      | [] => p
    | .notice :: _ => p
    | [] => p.sendNotice

/-- The line is free: no frame is being sent, LINK-HOLD is high, and the part is not about to start (R179, R183). -/
def Port.lineFree (p : Port) : Bool := p.sending.isNone && p.linkHold && p.restart != .due

/-- A free line takes the earliest ready answer, else the head notice; every command ends with this (R179, log 6). -/
def pump (s : State) : State := if s.port.lineFree then s.setPort s.port.beginFrame else s

/-- The end of a command's effect. -/
def finish (s : State) : Out := .next (pump s)

/-! ## The execution of an order (R176) -/

/-- The port can execute the order at the head of its queue when it meets a test: the answer slot is empty, and no
start is due (R176, R183, log 8). -/
def Port.nextOrder (p : Port) (accepts : Order → Bool) : Option (Order × Port) :=
  match p.orders with
  | o :: rest =>
    if accepts o && p.slot.isNone && p.restart != .due then some (o, { p with orders := rest }) else none
  | [] => none

/-- The answer of an order is placed in the answer slot, ready behind the answers that became ready before it. -/
def answer (s : State) (o : Order) (r : Result) : State :=
  s.setPort
    { s.port with
      slot := some ⟨o.kind ||| 0x80, o.tag, r.body⟩
      ready := s.port.ready ++ [.slot] }

/-- The order at the head of the queue, when it meets a test, leaves the queue, is executed by its meaning and is
answered (R176). When no such order can be executed the command finds nothing to do (log 4). -/
def runOrder (s : State) (accepts : Order → Bool) (meaning : List Byte → State → State × Result) : Out :=
  match s.port.nextOrder accepts with
  | none => .next s
  | some (o, p) =>
    let r := meaning o.body (s.setPort p)
    finish (answer r.1 o r.2)

/-- The order is of a kind. -/
def ofKind (k : Byte) (o : Order) : Bool := o.kind == k

/-! ## Alarm outputs (R142) -/

/-- ALM-A and ALM-B are evaluated. -/
def evalAlarms (s : State) : State :=
  s.setSites
    { s.sites with
      alarmA := { s.sites.alarmA with asserted := alarmOf s.sites.alarmA.map s.sites.links s.journal.high }
      alarmB := { s.sites.alarmB with asserted := alarmOf s.sites.alarmB.map s.sites.links s.journal.high } }

/-! ## The journal -/

/-- Live pages (R43). -/
def State.livePages (s : State) : Nat := s.store.pages.length

/-- Free slots: 2048 less the records less the live pages (R86). -/
def State.freeSlots (s : State) : Nat := Config.journalPlaces - s.journal.records.length - s.livePages

/-- The JOURNAL-HIGH condition is evaluated; a change raises its notice and evaluates the alarms (R89, R142). -/
def evalJournalHigh (s : State) : State :=
  let high := journalHighOf s.journal.records.length s.journal.level
  if high == s.journal.high then s
  else
    evalAlarms
      (raise (s.setJournal { s.journal with high := high })
        (.journalHigh high s.journal.records.length s.journal.level))

/-- A record is appended at the tail with the next sequence number, and the condition is evaluated (R83, R85, R89). -/
def appendRecord (s : State) (account : Nat) (body : JournalBody) : State :=
  evalJournalHigh
    (s.setJournal
      { s.journal with
        records := s.journal.records ++ [⟨s.journal.nextSeq, s.sys.clock.map (· / 1000), account, body⟩]
        nextSeq := s.journal.nextSeq + 1 })

/-! ## The console admission wait list -/

/-- Room is announced to the head of the wait list (R43, R88); with no line waiting the announcement is spent (log 20). -/
def announce (s : State) : State :=
  if s.intake.waitList.isEmpty then s
  else s.setIntake { s.intake with announcements := s.intake.announcements + 1 }

/-! ## Accounts -/

/-- The LOW-BALANCE check (R72). -/
def checkLowBalance (s : State) (a : Nat) : State :=
  match s.account a with
  | none => s
  | some x =>
    match x.money.lowDue with
    | none => s
    | some (balance, threshold) =>
      raise (s.modifyAccount a fun x => { x with money := x.money.withNotice true })
        (.lowBalance a balance threshold)

/-! ## The ticket pool (R102, log 25) -/

/-- The tickets of a zone that stand in its queues or its unsent batch. -/
def ZoneRec.unsent (z : ZoneRec) : List Ticket :=
  (match z.making with | some b => b.tickets | none => []) ++ z.emergency ++ z.priority ++ z.normal

/-- The tickets of a zone that are at its site. -/
def ZoneRec.atSite (z : ZoneRec) : List Ticket := match z.site with | some b => b.tickets | none => []

/-- Every live ticket of a zone. -/
def ZoneRec.live (z : ZoneRec) : List Ticket := z.unsent ++ z.atSite

/-- Every live ticket with its zone. -/
def State.liveTickets (s : State) : List (Zone × Ticket) :=
  allZones.flatMap fun z => (s.zone z).live.map fun t => (z, t)

/-- Tickets that stand in the pool. -/
def State.pool (s : State) : Nat := Config.maxTickets - s.liveTickets.length

end Sys2Proof.Machine
end

