-- ==== Sys2Proof/Machine/Accounts.lean ====
section
/-! DEFINITION. Machine/Accounts.lean: the Account Unit (04): prices, the credit test, the reservation, the account's part of a
settlement, and the meanings of the account and tariff orders. -/

namespace Sys2Proof.Machine

/-! ## Price, credit test, reservation, settlement -/

/-- The surcharge of a class (R67). -/
def Plan.surcharge (p : Plan) : PageClass → Nat
  | .emergency => p.emergencySurcharge
  | .priority => p.prioritySurcharge
  | .normal => 0

/-- The estimate of a page (R67), its started tens the length divided by ten and rounded up (log 42). -/
def Plan.estimate (p : Plan) (length : Nat) (c : PageClass) (viaGroup : Bool) : Nat :=
  (if viaGroup then p.member else p.page) + p.perTen * started 10 length + p.surcharge c

/-- The amount an account can still bear: the credit test passes exactly up to it (R68, R77). -/
def Account.available (a : Account) : Int :=
  match a.money with
  | .prepaid balance _ _ => balance - a.reserved
  | .postpaid limit => (limit : Int) - a.periodCharged - a.reserved

/-- The credit test for an amount (R68). -/
def Account.creditPasses (a : Account) (amount : Nat) : Bool := decide ((amount : Int) ≤ a.available)

/-- One page is reserved on an account (R69). -/
def reserve (s : State) (a estimate : Nat) : State :=
  s.modifyAccount a fun x => { x with reserved := x.reserved + estimate, livePages := x.livePages + 1 }

/-- The units charged for a page (R70). -/
def unitsCharged (o : PageOutcome) (transmissions estimate fee : Nat) : Nat :=
  match o with
  | .delivered => estimate
  | _ => if transmissions = 0 then 0 else fee

/-- A prepaid balance lowered by units, not below the least signed 32-bit value (R65, R71). -/
def Money.charge (units : Nat) : Money → Money
  | .prepaid balance threshold given => .prepaid (max (-2147483648) (balance - units)) threshold given
  | .postpaid limit => .postpaid limit

/-- The account moved by a settlement (R71, R65). -/
def Account.settle (x : Account) (o : PageOutcome) (units estimate : Nat) : Account :=
  { x with
    money := x.money.charge units
    periodCharged := min 4294967295 (x.periodCharged + units)
    periodDelivered := if o = .delivered then min 4294967295 (x.periodDelivered + 1) else x.periodDelivered
    periodNotDelivered := if o = .delivered then x.periodNotDelivered else min 4294967295 (x.periodNotDelivered + 1)
    reserved := x.reserved - estimate
    livePages := x.livePages - 1 }

/-! ## ACCOUNT-OPEN, ACCOUNT-SET, ACCOUNT-STATE -/

/-- The account count of a plan changes (R66). -/
def adjustPlan (s : State) (p : Nat) (f : Nat → Nat) : State := s.modifyPlan p fun x => { x with accounts := f x.accounts }

/-- An account is opened at a FREE id (R73). -/
def openAccount (s : State) (a plan : Nat) (money : Money) : State × Result :=
  if (s.plan plan).isNone then (s, .unknown)
  else if (s.account a).isSome then (s, .state)
  else
    let x : Account := ⟨.opened, plan, money, 0, 0, 0, 0, 0, 0⟩
    (adjustPlan (s.setMoney { s.money with accounts := Table.set s.money.accounts a x }) plan (· + 1), .done [])

/-- ACCOUNT-OPEN (R73): kind PREPAID 00h, POSTPAID 01h. -/
def orderAccountOpen (body : List Byte) (s : State) : State × Result :=
  match readFields [2, 1, 1, 1, 4, 1, 4] body with
  | some [a, kind, plan, pThr, thr, pLim, lim] =>
    match accountId a, planId plan, kind with
    | some a, some plan, 0 =>
      match prepaidThreshold pThr thr pLim with
      | some t => openAccount s a plan (.prepaid 0 t false)
      | none => (s, .badValue)
    | some a, some plan, 1 =>
      match postpaidLimit pThr pLim lim with
      | some l => openAccount s a plan (.postpaid l)
      | none => (s, .badValue)
    | _, _, _ => (s, .badValue)
  | _ => (s, .badForm)

/-- New plan and money fields are written (R74). -/
def setAccount (s : State) (a : Nat) (x : Account) (plan : Nat) (money : Money) : State × Result :=
  if (s.plan plan).isNone then (s, .unknown)
  else
    let s1 := s.modifyAccount a fun y => { y with plan := plan, money := money }
    let s2 := if x.plan = plan then s1 else adjustPlan (adjustPlan s1 x.plan (· - 1)) plan (· + 1)
    (checkLowBalance s2 a, .done [])

/-- ACCOUNT-SET (R74): the ranges are judged against the kind of the target record. -/
def orderAccountSet (body : List Byte) (s : State) : State × Result :=
  match readFields [2, 1, 1, 4, 1, 4] body with
  | some [a, plan, pThr, thr, pLim, lim] =>
    match accountId a with
    | none => (s, .badValue)
    | some a =>
      match s.account a with
      | none => (s, .unknown)
      | some x =>
        match planId plan, x.money with
        | some plan, .prepaid balance _ _ =>
          match prepaidThreshold pThr thr pLim with
          | some t => setAccount s a x plan (.prepaid balance t false)
          | none => (s, .badValue)
        | some plan, .postpaid _ =>
          match postpaidLimit pThr pLim lim with
          | some l => setAccount s a x plan (.postpaid l)
          | none => (s, .badValue)
        | none, _ => (s, .badValue)
  | _ => (s, .badForm)

/-- The new state ACCOUNT-STATE names (log 12). -/
def accountStateOf : Nat → Option AccountState
  | 1 => some .opened
  | 2 => some .suspended
  | _ => none

/-- ACCOUNT-STATE (R75). -/
def orderAccountState (body : List Byte) (s : State) : State × Result :=
  match readFields [2, 1] body with
  | some [a, st] =>
    match accountId a, accountStateOf st with
    | some a, some st =>
      if (s.account a).isNone then (s, .unknown) else (s.modifyAccount a fun x => { x with state := st }, .done [])
    | _, _ => (s, .badValue)
  | _ => (s, .badForm)

/-! ## ACCOUNT-CREDIT -/

/-- The money fields after a credit: low-notice given returns to no at or above the threshold (R72, R76). -/
def creditedMoney (balance : Int) (threshold : Option Nat) (given : Bool) : Money :=
  match threshold with
  | some t => .prepaid balance threshold (if (t : Int) ≤ balance then false else given)
  | none => .prepaid balance threshold given

/-- A credit is carried out (R76). -/
def credit (s : State) (a : Nat) (amount balance : Int) (threshold : Option Nat) (given : Bool) : State :=
  let s1 := s.modifyAccount a fun x => { x with money := creditedMoney balance threshold given }
  let s2 := appendRecord s1 a (.credit amount balance)
  if amount < 0 then checkLowBalance s2 a else s2

/-- ACCOUNT-CREDIT (R76). -/
def orderAccountCredit (body : List Byte) (s : State) : State × Result :=
  match readFields [2, 4] body with
  | some [a, _] =>
    let amount := intOf (body.drop 2)
    match accountId a with
    | none => (s, .badValue)
    | some a =>
      if amount = 0 then (s, .badValue)
      else
        match s.account a with
        | none => (s, .unknown)
        | some x =>
          match x.money with
          | .postpaid _ => (s, .badValue)
          | .prepaid old threshold given =>
            let balance := old + amount
            if balance < -2147483648 ∨ 2147483647 < balance then (s, .badValue)
            else if s.freeSlots = 0 then (s, .full)
            else
              (credit s a amount balance threshold given,
                .done (beSigned 4 balance ++ be 4 s.journal.nextSeq.toNat))
  | _ => (s, .badForm)

/-! ## ACCOUNT-QUERY, ACCOUNT-CLOSE -/

/-- The available amount in four bytes; outside the signed 32-bit format the bytes are a free value (log 14). -/
def availableField (x : Int) : List Byte :=
  if -2147483648 ≤ x ∧ x ≤ 2147483647 then beSigned 4 x else be 4 (Config.availableOutside x).toNat

/-- The code of a defined account's state (log 12). -/
def AccountState.code : AccountState → Byte
  | .opened => 1
  | .suspended => 2

/-- Balance, credit limit, low threshold and low-notice given, each behind its presence byte (R65, R188). -/
def moneyFields : Money → List Byte
  | .prepaid balance threshold given =>
    1 :: beSigned 4 balance ++ optField 4 none ++ optField 4 threshold ++ [1, yesNo given]
  | .postpaid limit => 0 :: be 4 0 ++ optField 4 (some limit) ++ optField 4 none ++ [0, 0]

/-- The kind of an account. -/
def Money.kindCode : Money → Byte
  | .prepaid _ _ _ => 0
  | .postpaid _ => 1

/-- ACCOUNT-QUERY (R77). -/
def orderAccountQuery (body : List Byte) (s : State) : State × Result :=
  match readFields [2] body with
  | some [a] =>
    match accountId a with
    | none => (s, .badValue)
    | some a =>
      match s.account a with
      | none => (s, .done [0])
      | some x =>
        (s, .done
          ([x.state.code, x.money.kindCode] ++ be 1 x.plan ++ moneyFields x.money ++ be 4 x.periodCharged
            ++ be 4 x.periodDelivered ++ be 4 x.periodNotDelivered ++ be 4 x.reserved ++ be 2 x.livePages
            ++ be 2 x.subRefs ++ availableField x.available))
  | _ => (s, .badForm)

/-- A prepaid balance other than 0 (R78). -/
def Money.holdsFunds : Money → Bool
  | .prepaid balance _ _ => balance != 0
  | .postpaid _ => false

/-- ACCOUNT-CLOSE (R78). -/
def orderAccountClose (body : List Byte) (s : State) : State × Result :=
  match readFields [2] body with
  | some [a] =>
    match accountId a with
    | none => (s, .badValue)
    | some a =>
      match s.account a with
      | none => (s, .unknown)
      | some x =>
        if x.money.holdsFunds || x.periodCharged != 0 || x.periodDelivered != 0 || x.periodNotDelivered != 0 then
          (s, .state)
        else if 0 < x.subRefs then (s, .inUse)
        else if 0 < x.livePages then (s, .inUse)
        else
          (adjustPlan (s.setMoney { s.money with accounts := Table.erase s.money.accounts a }) x.plan (· - 1), .done [])
  | _ => (s, .badForm)

/-! ## TARIFF-DEFINE, TARIFF-QUERY, PERIOD-CLOSE -/

/-- TARIFF-DEFINE (R79). -/
def orderTariffDefine (body : List Byte) (s : State) : State × Result :=
  match readFields [1, 2, 2, 2, 2, 2, 2] body with
  | some [p, page, member, perTen, pri, emg, fee] =>
    match planId p with
    | none => (s, .badValue)
    | some p =>
      if page < fee ∨ member < fee then (s, .badValue)
      else
        let accounts := match s.plan p with | some x => x.accounts | none => 0
        if 0 < accounts then (s, .inUse)
        else
          (s.setMoney { s.money with plans := Table.set s.money.plans p ⟨page, member, perTen, pri, emg, fee, accounts⟩ },
            .done [])
  | _ => (s, .badForm)

/-- TARIFF-QUERY (R80): the fields of a DEFINED plan each behind a presence byte (log 11). -/
def orderTariffQuery (body : List Byte) (s : State) : State × Result :=
  match readFields [1] body with
  | some [p] =>
    match planId p with
    | none => (s, .badValue)
    | some p =>
      let x := s.plan p
      (s, .done
        (yesNo x.isSome
          :: (optField 2 (x.map (·.page)) ++ optField 2 (x.map (·.member)) ++ optField 2 (x.map (·.perTen))
            ++ optField 2 (x.map (·.prioritySurcharge)) ++ optField 2 (x.map (·.emergencySurcharge))
            ++ optField 2 (x.map (·.attemptFee)) ++ optField 2 (x.map (·.accounts)))))
  | _ => (s, .badForm)

/-- The period fields of an account set to 0 (R81). -/
def Account.closePeriod (x : Account) : Account :=
  { x with periodCharged := 0, periodDelivered := 0, periodNotDelivered := 0 }

/-- PERIOD-CLOSE (R81). -/
def orderPeriodClose (body : List Byte) (s : State) : State × Result :=
  match readFields [2] body with
  | some [a] =>
    match accountId a with
    | none => (s, .badValue)
    | some a =>
      match s.account a with
      | none => (s, .unknown)
      | some x =>
        if s.freeSlots = 0 then (s, .full)
        else
          ((appendRecord s a (.period x.periodCharged x.periodDelivered x.periodNotDelivered)).modifyAccount a
              Account.closePeriod,
            .done
              (be 4 x.periodCharged ++ be 4 x.periodDelivered ++ be 4 x.periodNotDelivered
                ++ be 4 s.journal.nextSeq.toNat))
  | _ => (s, .badForm)

/-! ## The commands -/

def execAccountOpen (s : State) : Out := runOrder s (ofKind 0x16) orderAccountOpen
def execAccountSet (s : State) : Out := runOrder s (ofKind 0x17) orderAccountSet
def execAccountState (s : State) : Out := runOrder s (ofKind 0x18) orderAccountState
def execAccountCredit (s : State) : Out := runOrder s (ofKind 0x19) orderAccountCredit
def execAccountQuery (s : State) : Out := runOrder s (ofKind 0x1A) orderAccountQuery
def execAccountClose (s : State) : Out := runOrder s (ofKind 0x1B) orderAccountClose
def execTariffDefine (s : State) : Out := runOrder s (ofKind 0x1C) orderTariffDefine
def execTariffQuery (s : State) : Out := runOrder s (ofKind 0x1D) orderTariffQuery
def execPeriodClose (s : State) : Out := runOrder s (ofKind 0x1E) orderPeriodClose

end Sys2Proof.Machine
end

