-- ==== Sys2Proof/Machine/Directory.lean ====
section
/-! DEFINITION. Machine/Directory.lean: the Subscriber Directory (01): recipient expansion, resolution, and the meanings of the
directory orders. Each order checks form, ranges, existence, state and conflicts in turn (R8). -/

namespace Sys2Proof.Machine

/-! ## Recipient expansion and the number plan -/

/-- A recipient expansion (R4). -/
structure Expansion where
  recipients : List Nat
  account : Nat
  via : Option Nat
  deriving DecidableEq, Repr

/-- The record at an index is ACTIVE. -/
def Directory.isActive (d : Directory) (i : Nat) : Bool :=
  match Table.get d.subs i with
  | some u => u.state == .active
  | none => false

/-- The recipient expansion of an index (R4). -/
def Directory.expand (d : Directory) (i : Nat) : Except ECode Expansion :=
  match Table.get d.subs i with
  | none => .error .e02
  | some u =>
    match u.state, u.body with
    | .suspended, _ => .error .e02
    | .active, .pager _ => .ok ⟨[i], u.account, none⟩
    | .active, .group members =>
      let live := members.filter d.isActive
      if live.isEmpty then .error .e12 else .ok ⟨live, u.account, some i⟩

/-- The block covers a directory number. -/
def NumberBlock.covers (b : NumberBlock) (n : Nat) : Bool := decide (b.first ≤ n) && decide (n < b.first + b.count)

/-- The block covers an index. -/
def NumberBlock.coversIndex (b : NumberBlock) (i : Nat) : Bool := decide (b.index ≤ i) && decide (i < b.index + b.count)

/-- The fields of a block are in range (R5). -/
def NumberBlock.inRange (b : NumberBlock) : Bool :=
  decide (b.first ≤ 9999999) && decide (1 ≤ b.count) && decide (b.count ≤ 4096) && decide (b.index ≤ 4095)
    && decide (b.first + b.count ≤ 10000000) && decide (b.index + b.count ≤ 4096)

/-- Two blocks share a number or an index (R5). -/
def NumberBlock.overlaps (a b : NumberBlock) : Bool :=
  (decide (a.first < b.first + b.count) && decide (b.first < a.first + a.count))
    || (decide (a.index < b.index + b.count) && decide (b.index < a.index + a.count))

/-- The entry, its number among the eight, that covers a directory number (R6). -/
def Directory.blockOf (d : Directory) (n : Nat) : Option (Fin 8 × NumberBlock) :=
  (List.finRange 8).findSome? fun e =>
    match d.blocks[e] with
    | some b => if b.covers n then some (e, b) else none
    | none => none

/-- Resolution of a directory number: the entry used and the index of a defined record (R6). -/
def Directory.resolve (d : Directory) (n : Nat) : Option (Fin 8 × Nat) :=
  match d.blockOf n with
  | none => none
  | some (e, b) =>
    let i := b.index + (n - b.first)
    if Table.has d.subs i then some (e, i) else none

/-- The directory number of an index (R6). -/
def Directory.numberOf (d : Directory) (i : Nat) : Option Nat :=
  (List.finRange 8).findSome? fun e =>
    match d.blocks[e] with
    | some b => if b.coversIndex i then some (b.first + (i - b.index)) else none
    | none => none

/-! ## Changes -/

/-- The memberships counts of some subscribers change (R3). -/
def adjustMemberships (subs : Table Subscriber) (members : List Nat) (f : Nat → Nat) : Table Subscriber :=
  members.foldl
    (fun t m =>
      Table.modify t m fun u =>
        match u.body with
        | .pager p => { u with body := .pager { p with memberships := f p.memberships } }
        | .group _ => u)
    subs

/-- The subscriber-references count of an account changes (R64). -/
def adjustRefs (s : State) (account : Nat) (f : Nat → Nat) : State :=
  s.modifyAccount account fun a => { a with subRefs := f a.subRefs }

/-- A live page names the subscriber as recipient (R43). -/
def State.hasPages (s : State) (i : Nat) : Bool := s.store.pages.any fun e => e.2.subscriber == i

/-- A live page carries the group as its via group (R43). -/
def State.hasViaPages (s : State) (i : Nat) : Bool := s.store.pages.any fun e => e.2.via == some i

/-- Some listed member is a GROUP. -/
def Directory.anyGroup (d : Directory) (members : List Nat) : Bool :=
  members.any fun m => match Table.get d.subs m with | some u => u.kind == .group | none => false

/-! ## BLOCK-DEFINE and BLOCK-CLEAR -/

/-- Another DEFINED entry overlaps a block (R9). -/
def Directory.blockConflict (d : Directory) (entry : Fin 8) (b : NumberBlock) : Bool :=
  (List.finRange 8).any fun e =>
    e != entry && match d.blocks[e] with | some b' => b.overlaps b' | none => false

/-- BLOCK-DEFINE (R9). -/
def orderBlockDefine (body : List Byte) (s : State) : State × Result :=
  match readFields [1, 4, 2, 2] body with
  | some [e, first, count, index] =>
    match finOf 8 e with
    | none => (s, .badValue)
    | some e =>
      let b : NumberBlock := ⟨first, count, index⟩
      if !b.inRange then (s, .badValue)
      else if s.dir.blockConflict e b then (s, .badValue)
      else (s.setDir { s.dir with blocks := s.dir.blocks.set e (some b) }, .done [])
  | _ => (s, .badForm)

/-- BLOCK-CLEAR (R10). -/
def orderBlockClear (body : List Byte) (s : State) : State × Result :=
  match readFields [1] body with
  | some [e] =>
    match finOf 8 e with
    | none => (s, .badValue)
    | some e =>
      if s.dir.blocks[e].isNone then (s, .unknown)
      else (s.setDir { s.dir with blocks := s.dir.blocks.set e none }, .done [])
  | _ => (s, .badForm)

/-! ## SUB-DEFINE -/

/-- A pager's record is written at a FREE index (R11). -/
def definePager (s : State) (i account : Nat) (cls : PageClass) (kind : PagerKind) (f : PagerFields) : State × Result :=
  if (s.account account).isNone then (s, .unknown)
  else if Table.has s.dir.subs i then (s, .state)
  else if Table.has s.dir.airMap f.air then (s, .inUse)
  else
    let u : Subscriber :=
      ⟨.active, account, cls, .pager ⟨kind, f.air, f.home, f.roaming, f.hold, none, 0⟩⟩
    (adjustRefs
      (s.setDir { s.dir with subs := Table.set s.dir.subs i u, airMap := Table.set s.dir.airMap f.air i })
      account (· + 1), .done [])

/-- A GROUP's record is written at a FREE index (R11). -/
def defineGroup (s : State) (i account : Nat) (cls : PageClass) (members : List Nat) : State × Result :=
  if (s.account account).isNone then (s, .unknown)
  else if members.any (fun m => !Table.has s.dir.subs m) then (s, .unknown)
  else if Table.has s.dir.subs i then (s, .state)
  else if s.dir.anyGroup members then (s, .badValue)
  else
    let u : Subscriber := ⟨.active, account, cls, .group members⟩
    (adjustRefs
      (s.setDir { s.dir with subs := Table.set (adjustMemberships s.dir.subs members (· + 1)) i u })
      account (· + 1), .done [])

/-- The kind SUB-DEFINE names: a pager's, or none for GROUP. -/
def kindOf : Nat → Option (Option PagerKind)
  | 0 => some (some .numeric)
  | 1 => some (some .alpha)
  | 2 => some (some .twoWay)
  | 3 => some none
  | _ => none

/-- SUB-DEFINE (R11). -/
def orderSubDefine (body : List Byte) (s : State) : State × Result :=
  match readFields [2, 1, 2, 1, 1, 3, 1, 1, 1, 1, 1, 1, 1] (body.take 17), readList (body.drop 17) with
  | some [i, kind, account, cls, pAir, air, pHome, home, pRoam, roam, pHold, hold, pMembers], some members =>
    match subscriberIndex i, accountId account, defaultClassOf cls, kindOf kind with
    | some i, some account, some cls, some (some kind) =>
      match pagerFields kind pAir air pHome home pRoam roam pHold hold with
      | some f => if pMembers = 0 then definePager s i account cls kind f else (s, .badValue)
      | none => (s, .badValue)
    | some i, some account, some cls, some none =>
      if pAir = 0 ∧ pHome = 0 ∧ pRoam = 0 ∧ pHold = 0 ∧ pMembers = 1 then
        match membersList i members with
        | some members => defineGroup s i account cls members
        | none => (s, .badValue)
      else (s, .badValue)
    | _, _, _, _ => (s, .badValue)
  | _, _ => (s, .badForm)

/-! ## SUB-ALTER -/

/-- The references of the old and the new account when a subscriber changes account (R12). -/
def moveRefs (s : State) (old new : Nat) : State :=
  if old = new then s else adjustRefs (adjustRefs s old (· - 1)) new (· + 1)

/-- New values for a pager (R12). -/
def alterPager (s : State) (i : Nat) (u : Subscriber) (p : Pager) (account : Nat) (cls : PageClass) (f : PagerFields) :
    State × Result :=
  if (s.account account).isNone then (s, .unknown)
  else if f.air ≠ p.air ∧ Table.has s.dir.airMap f.air then (s, .inUse)
  else if f.air ≠ p.air ∧ s.hasPages i then (s, .inUse)
  else
    let p' : Pager :=
      { p with
        air := f.air, home := f.home, roaming := f.roaming, hold := f.hold
        lastReg := if f.air = p.air then p.lastReg else none }
    let airMap := if f.air = p.air then s.dir.airMap else Table.set (Table.erase s.dir.airMap p.air) f.air i
    (moveRefs
      (s.setDir
        { s.dir with
          subs := Table.set s.dir.subs i { u with account := account, defaultClass := cls, body := .pager p' }
          airMap := airMap })
      u.account account, .done [])

/-- New values for a GROUP (R12). -/
def alterGroup (s : State) (i : Nat) (u : Subscriber) (account : Nat) (cls : PageClass) : State × Result :=
  if (s.account account).isNone then (s, .unknown)
  else
    (moveRefs
      (s.setDir { s.dir with subs := Table.set s.dir.subs i { u with account := account, defaultClass := cls } })
      u.account account, .done [])

/-- SUB-ALTER (R12): the ranges are judged against the kind of the target record. -/
def orderSubAlter (body : List Byte) (s : State) : State × Result :=
  match readFields [2, 1, 3, 2, 1, 1, 1, 1, 1, 1, 1] body with
  | some [i, pAir, air, account, cls, pHome, home, pRoam, roam, pHold, hold] =>
    match subscriberIndex i with
    | none => (s, .badValue)
    | some i =>
      match s.sub i with
      | none => (s, .unknown)
      | some u =>
        match accountId account, defaultClassOf cls, u.body with
        | some account, some cls, .pager p =>
          match pagerFields p.kind pAir air pHome home pRoam roam pHold hold with
          | some f => alterPager s i u p account cls f
          | none => (s, .badValue)
        | some account, some cls, .group _ =>
          if pAir = 0 ∧ pHome = 0 ∧ pRoam = 0 ∧ pHold = 0 then alterGroup s i u account cls else (s, .badValue)
        | _, _, _ => (s, .badValue)
  | _ => (s, .badForm)

/-! ## SUB-STATE, SUB-CLOSE, GROUP-MEMBERS -/

/-- The new state SUB-STATE names (log 12). -/
def subStateOf : Nat → Option SubState
  | 1 => some .active
  | 2 => some .suspended
  | _ => none

/-- SUB-STATE (R13). -/
def orderSubState (body : List Byte) (s : State) : State × Result :=
  match readFields [2, 1] body with
  | some [i, st] =>
    match subscriberIndex i, subStateOf st with
    | some i, some st =>
      match s.sub i with
      | none => (s, .unknown)
      | some u => (s.setDir { s.dir with subs := Table.set s.dir.subs i { u with state := st } }, .done [])
    | _, _ => (s, .badValue)
  | _ => (s, .badForm)

/-- SUB-CLOSE (R14). -/
def orderSubClose (body : List Byte) (s : State) : State × Result :=
  match readFields [2] body with
  | some [i] =>
    match subscriberIndex i with
    | none => (s, .badValue)
    | some i =>
      match s.sub i with
      | none => (s, .unknown)
      | some u =>
        match u.body with
        | .pager p =>
          if 0 < p.memberships then (s, .inUse)
          else if s.hasPages i then (s, .inUse)
          else
            (adjustRefs
              (s.setDir
                { s.dir with subs := Table.erase s.dir.subs i, airMap := Table.erase s.dir.airMap p.air })
              u.account (· - 1), .done [])
        | .group members =>
          if s.hasPages i then (s, .inUse)
          else if s.hasViaPages i then (s, .inUse)
          else
            (adjustRefs
              (s.setDir { s.dir with subs := Table.erase (adjustMemberships s.dir.subs members (· - 1)) i })
              u.account (· - 1), .done [])
  | _ => (s, .badForm)

/-- GROUP-MEMBERS (R15). -/
def orderGroupMembers (body : List Byte) (s : State) : State × Result :=
  match readFields [2] (body.take 2), readList (body.drop 2) with
  | some [i], some members =>
    match subscriberIndex i with
    | none => (s, .badValue)
    | some i =>
      match membersList i members with
      | none => (s, .badValue)
      | some members =>
        match s.sub i with
        | none => (s, .unknown)
        | some u =>
          if members.any (fun m => !Table.has s.dir.subs m) then (s, .unknown)
          else
            match u.body with
            | .pager _ => (s, .state)
            | .group old =>
              if s.dir.anyGroup members then (s, .badValue)
              else
                let left := old.filter fun m => !members.contains m
                let joined := members.filter fun m => !old.contains m
                let subs := adjustMemberships (adjustMemberships s.dir.subs left (· - 1)) joined (· + 1)
                (s.setDir { s.dir with subs := Table.set subs i { u with body := .group members } }, .done [])
  | _, _ => (s, .badForm)

/-! ## SUB-QUERY and RESOLVE -/

/-- A counted list of 2-byte entries (R188). -/
def listField (l : List Nat) : List Byte := be 1 l.length ++ l.flatMap (be 2)

/-- A last registration: zone and office-clock seconds, behind one presence byte, as the one field that 1.1 lists (log 56). -/
def lastRegField : Option (Zone × Nat) → List Byte
  | some (z, t) => 1 :: numByte z :: be 4 t
  | none => 0 :: 0 :: be 4 0

/-- The record's own fields in the order of 1.1, the members behind the last registration (R16, log 11);
hold enabled is present for every kind that has a pager (log 47). -/
def subscriberFields (u : Subscriber) : List Byte :=
  [u.state.code, u.kind.code]
    ++ (match u.body with
        | .pager p =>
          optField 3 (some p.air) ++ be 2 u.account ++ [u.defaultClass.code] ++ optField 1 (some p.home.val)
            ++ optField 1 (some p.roaming.toNat) ++ [1, yesNo p.hold] ++ lastRegField p.lastReg ++ 0 :: listField []
        | .group members =>
          optField 3 none ++ be 2 u.account ++ [u.defaultClass.code] ++ optField 1 none ++ optField 1 none
            ++ optField 1 none ++ lastRegField none ++ 1 :: listField members)

/-- The number of live pages naming a subscriber as recipient (R43). -/
def State.pagesOf (s : State) (i : Nat) : Nat := countWhere s.store.pages fun e => e.2.subscriber == i

/-- SUB-QUERY (R16). -/
def orderSubQuery (body : List Byte) (s : State) : State × Result :=
  match readFields [2] body with
  | some [i] =>
    match subscriberIndex i with
    | none => (s, .badValue)
    | some i =>
      match s.sub i with
      | none => (s, .done [0])
      | some u =>
        let memberships := match u.body with | .pager p => some p.memberships | .group _ => none
        (s, .done
          (subscriberFields u ++ optField 4 (s.dir.numberOf i) ++ optField 2 memberships ++ be 2 (s.pagesOf i)
            ++ be 1 (s.mailbox i).length))
  | _ => (s, .badForm)

/-- What RESOLVE reports of the record at an index (R16). -/
def resolved (s : State) (i : Nat) (entry : Option (Fin 8)) : Result :=
  match s.sub i with
  | none => .unknown
  | some u => .done (be 2 i ++ [u.kind.code, u.state.code] ++ optField 1 (entry.map (·.val)))

/-- RESOLVE (R16): key kind NUMBER 00h, AIR 01h. -/
def orderResolve (body : List Byte) (s : State) : State × Result :=
  match readFields [1, 4] body with
  | some [0, n] =>
    if 9999999 < n then (s, .badValue)
    else
      match s.dir.resolve n with
      | none => (s, .unknown)
      | some (e, i) => (s, resolved s i (some e))
  | some [1, air] =>
    match airAddress air with
    | none => (s, .badValue)
    | some air =>
      match Table.get s.dir.airMap air with
      | none => (s, .unknown)
      | some i => (s, resolved s i none)
  | some _ => (s, .badValue)
  | none => (s, .badForm)

/-! ## The commands -/

def execBlockDefine (s : State) : Out := runOrder s (ofKind 0x01) orderBlockDefine
def execBlockClear (s : State) : Out := runOrder s (ofKind 0x02) orderBlockClear
def execSubDefine (s : State) : Out := runOrder s (ofKind 0x03) orderSubDefine
def execSubAlter (s : State) : Out := runOrder s (ofKind 0x04) orderSubAlter
def execSubState (s : State) : Out := runOrder s (ofKind 0x05) orderSubState
def execSubClose (s : State) : Out := runOrder s (ofKind 0x06) orderSubClose
def execGroupMembers (s : State) : Out := runOrder s (ofKind 0x07) orderGroupMembers
def execSubQuery (s : State) : Out := runOrder s (ofKind 0x08) orderSubQuery
def execResolve (s : State) : Out := runOrder s (ofKind 0x09) orderResolve

end Sys2Proof.Machine
end

