-- ==== Sys2Proof/Machine/JournalOrders.lean ====
section
/-! DEFINITION. Machine/JournalOrders.lean: the meanings of the orders of the Billing Journal (05), and the byte form of its
records (12.4). -/

namespace Sys2Proof.Machine

/-- The kind byte of a record (12.4). -/
def JournalBody.kind : JournalBody → Byte
  | .outcome .. => 1
  | .credit .. => 2
  | .period .. => 3

/-- The flags byte of a record: time, via group and delivering zone present (12.4). -/
def JournalRecord.flags (r : JournalRecord) : Byte :=
  (if r.time.isSome then 1 else 0)
    + match r.body with
      | .outcome _ via _ _ _ _ _ _ zone => (if via.isSome then 2 else 0) + (if zone.isSome then 4 else 0)
      | _ => 0

/-- The further fields of a record (12.4). -/
def JournalBody.bytes : JournalBody → List Byte
  | .outcome subscriber via reference cls result units characters transmissions zone =>
    be 2 subscriber ++ be 2 (via.getD 0) ++ be 2 reference ++ [cls.code, result.code] ++ be 4 units
      ++ be 1 characters ++ be 1 transmissions ++ be 1 (zone.elim 0 (·.val))
  | .credit amount balance => beSigned 4 amount ++ beSigned 4 balance
  | .period charged delivered notDelivered => be 4 charged ++ be 4 delivered ++ be 4 notDelivered

/-- A record in bytes (12.4). -/
def JournalRecord.bytes (r : JournalRecord) : List Byte :=
  be 4 r.seq.toNat ++ [r.body.kind, r.flags] ++ be 4 (r.time.getD 0) ++ be 2 r.account ++ r.body.bytes

/-- JOURNAL-FETCH (R90). -/
def orderJournalFetch (body : List Byte) (s : State) : State × Result :=
  match readFields [1] body with
  | some [wanted] =>
    if 1 ≤ wanted ∧ wanted ≤ 6 then
      let got := s.journal.records.take wanted
      (s, .done (be 2 s.journal.records.length ++ be 1 got.length ++ got.flatMap (·.bytes)))
    else (s, .badValue)
  | _ => (s, .badForm)

/-- The answer of JOURNAL-RELEASE, after the removal (R91). -/
def releaseAnswer (s : State) (removed : Nat) : Result :=
  .done (be 2 removed ++ be 2 s.journal.records.length ++ be 2 s.freeSlots)

/-- Some of the oldest records are removed, the condition is evaluated and room is announced (R91, R88). -/
def release (s : State) (removed : Nat) : State :=
  announce (evalJournalHigh (s.setJournal { s.journal with records := s.journal.records.drop removed }))

/-- JOURNAL-RELEASE (R91): s is judged by counting back from the newest record. -/
def orderJournalRelease (body : List Byte) (s : State) : State × Result :=
  match readFields [4] body with
  | some [n] =>
    let d := (s.journal.nextSeq - 1 - BitVec.ofNat 32 n).toNat
    let h := s.journal.records.length
    if d < h then
      let s' := release s (h - d)
      (s', releaseAnswer s' (h - d))
    else if d < 2147483648 then (s, releaseAnswer s 0)
    else (s, .badValue)
  | _ => (s, .badForm)

/-- JOURNAL-STATUS (R92), the oldest and the newest number each behind a presence byte of its own (the model's choice, log 56). -/
def orderJournalStatus (body : List Byte) (s : State) : State × Result :=
  match body with
  | [] =>
    let j := s.journal
    (s, .done
      (be 2 j.records.length ++ be 2 s.livePages ++ be 2 s.freeSlots
        ++ optField 4 (j.records.head?.map (·.seq.toNat)) ++ optField 4 (j.records.getLast?.map (·.seq.toNat))
        ++ be 4 j.nextSeq.toNat ++ be 2 j.level ++ [firstListed j.high]))
  | _ => (s, .badForm)

/-- JOURNAL-LEVEL (R93). -/
def orderJournalLevel (body : List Byte) (s : State) : State × Result :=
  match readFields [2] body with
  | some [level] =>
    if 1 ≤ level ∧ level ≤ 2048 then
      let s' := evalJournalHigh (s.setJournal { s.journal with level := level })
      (s', .done (be 2 level ++ [firstListed s'.journal.high]))
    else (s, .badValue)
  | _ => (s, .badForm)

def execJournalFetch (s : State) : Out := runOrder s (ofKind 0x1F) orderJournalFetch
def execJournalRelease (s : State) : Out := runOrder s (ofKind 0x20) orderJournalRelease
def execJournalStatus (s : State) : Out := runOrder s (ofKind 0x21) orderJournalStatus
def execJournalLevel (s : State) : Out := runOrder s (ofKind 0x22) orderJournalLevel

end Sys2Proof.Machine
end

