-- ==== Sys2Proof/Machine/Links.lean ====
section
/-! DEFINITION. Machine/Links.lean: what other blocks ask of a site link (08): handing over a batch, abandoning it, the present
state and latched flag of a fault kind, and the timers. -/

namespace Sys2Proof.Machine

/-! ## Frames (12.3) -/

/-- One entry of a BATCH frame. -/
def BatchEntry.bytes (e : BatchEntry) : List Byte :=
  be 3 e.air ++ be 2 e.reference ++ e.kind.code :: be 1 e.body.length ++ e.body

/-- A BATCH frame. -/
def batchFrame (toggle : Bool) (number : BitVec 8) (entries : List BatchEntry) : List Byte :=
  siteFrame 0x01 (yesNo toggle :: number :: be 1 entries.length ++ entries.flatMap (·.bytes))

/-- The body byte of a POLL: RA, whether RA is given, RESYNC, and in bit 3 ST, which so is in every POLL (R130, R138). -/
def pollByte (l : LinkRec) : Byte :=
  (if l.ra = some true then 1 else 0) + (if l.ra.isSome then 2 else 0) + (if l.resyncPending then 4 else 0)
    + (if l.st then 8 else 0)

/-- A POLL frame (R130); it carries ST whatever else it says (R138). -/
def pollFrame (l : LinkRec) : List Byte := siteFrame 0x02 [pollByte l]

/-- A POLL is sent, and the next is due 200 ms after it (R130). -/
def LinkRec.poll (l : LinkRec) (base : Nat) : LinkRec :=
  { l with tx := pollFrame l, pollWaiting := false, pollDue := some (base + Config.pollInterval) }

/-- A POLL that falls due is sent, or waits for the last byte of a BATCH frame on the line (R130). -/
def LinkRec.duePoll (l : LinkRec) (base : Nat) : LinkRec :=
  if l.sendingBatch then { l with pollWaiting := true, pollDue := none } else l.poll base

/-! ## Timers -/

/-- The end time of a timer started now with the link window (R128). -/
def windowEnds (s : State) (z : Zone) : Nat := s.sys.base + (s.link z).window * 1000

/-- Resync pending is set yes and its timer started, unless it is pending already (R131, R132, R135);
a site out of step, which R138 does not allow one that keeps to it, is met by this. -/
def beginResync (s : State) (z : Zone) : State :=
  let l := s.link z
  if l.resyncPending then s
  else s.setLink z { l with resyncPending := true, resync := some (windowEnds s z) }

/-! ## Handing over a batch (R131) -/

/-- The link is in step (R131). -/
def LinkRec.inStep (l : LinkRec) : Bool :=
  !l.resyncPending && match l.last with | some r => r.tt == l.st | none => false

/-- A frame goes on the line, or waits behind a BATCH frame on it (R130). -/
def LinkRec.transmitBatch (l : LinkRec) (frame : List Byte) : LinkRec :=
  if l.sendingBatch then { l with nextFrame := some frame } else { l with sendingBatch := true, tx := frame }

/-- The BATCH frame is sent with the toggle opposite to ST; ST and the batch take the toggle (R131). -/
def sendBatch (s : State) (z : Zone) (entries : List BatchEntry) : State :=
  let l := s.link z
  let toggle := !l.st
  let r := s.zone z
  match r.site with
  | none => s
  | some b =>
    (s.setZone z { r with site := some { b with toggle := some toggle } }).setLink z
      (({ l with st := toggle, batch := .sent }).transmitBatch (batchFrame toggle b.number entries))

/-- A batch is handed to its link: sent at once in step, else withheld (R131). -/
def linkHandover (s : State) (z : Zone) (entries : List BatchEntry) : State :=
  let l := s.link z
  if l.inStep then sendBatch s z entries
  else beginResync (s.setLink z { l with batch := .withheld entries }) z

/-! ## Abandoning a batch (R135, R134) -/

/-- The carrier timer of an ON_AIR batch that is abandoned: no-batch mode with its end time if the last reported carrier
was ON, else stopped (R134). -/
def LinkRec.carrierAfterAbandon (l : LinkRec) : Option (Bool × Nat) :=
  match l.carrier, l.last with
  | some (_, ends), some r => if r.carrier then some (false, ends) else none
  | _, _ => none

/-- The link's part of an abandonment (R135); a BATCH frame that waits behind another stays (log 44). -/
def linkAbandon (s : State) (z : Zone) : State :=
  let l := s.link z
  match l.batch with
  | .none => s
  | .withheld _ => s.setLink z { l with batch := .none }
  | .sent => beginResync (s.setLink z { l with batch := .none, take := none }) z
  | .onAir => s.setLink z { l with batch := .none, carrier := l.carrierAfterAbandon }

/-! ## Present states and latched flags (R139, R141, R142) -/

/-- A change of a latched flag: its notice unless masked, then the alarm outputs (R141, R142). -/
def latchChanged (s : State) (z : Zone) (k : FaultKind) : State :=
  let f := (s.link z).fault k
  evalAlarms (if f.masked then s else raise s (.faultChange z k f.latched f.present))

/-- A fault kind becomes present or not present; a kind that becomes present latches if its flag was clear (R139). -/
def setPresent (s : State) (z : Zone) (k : FaultKind) (value : Bool) : State :=
  let l := s.link z
  let f := l.fault k
  if value && !f.latched then
    latchChanged (s.setLink z (l.setFault k { f with present := true, latched := true })) z k
  else s.setLink z (l.setFault k { f with present := value })

/-- LINK_LOST becomes present: resync pending is set yes and the silence and resync timers stop (R136):
the fault that meets a site that departs from R138 by its silence, by no answer to a resync, or by not taking a batch. -/
def loseLink (s : State) (z : Zone) : State :=
  setPresent (s.setLink z { s.link z with resyncPending := true, silence := none, resync := none }) z .linkLost true

end Sys2Proof.Machine
end

