-- ==== Sys2Proof/Machine/Dispatching.lean ====
section
/-! DEFINITION. Machine/Dispatching.lean: the Dispatch Unit (06) and the Group Arbiter (07) as far as other blocks use them:
composing batches, requests and grants, placing tickets, and giving up the tickets of a page. -/

namespace Sys2Proof.Machine

/-! ## Taking tickets into a batch (R108, R109) -/

/-- The tickets in a zone's queues. -/
def ZoneRec.queued (z : ZoneRec) : List Ticket := z.emergency ++ z.priority ++ z.normal

/-- The next ticket due, and the zone once it is taken: EMERGENCY first, then PRIORITY and NORMAL by the pattern (R108). -/
def ZoneRec.due (z : ZoneRec) : Option (Ticket × ZoneRec) :=
  match z.emergency, z.priority, z.normal with
  | t :: rest, _, _ => some (t, { z with emergency := rest })
  | [], [], [] => none
  | [], t :: rest, [] => some (t, { z with priority := rest, pattern := z.pattern + 1 })
  | [], [], t :: rest => some (t, { z with normal := rest, pattern := z.pattern + 1 })
  | [], p :: ps, n :: ns =>
    if z.pattern = 3 then some (n, { z with normal := ns, pattern := z.pattern + 1 })
    else some (p, { z with priority := ps, pattern := z.pattern + 1 })

/-- A ticket fits a batch (R108). -/
def MakingBatch.fits (b : MakingBatch) (t : Ticket) : Bool :=
  decide (b.tickets.length < Config.batchTickets) && decide (slotsOf b.tickets + t.cost ≤ Config.batchSlots)

/-- A batch takes tickets until the queues offer nothing more or the ticket due does not fit, which closes it (R108). -/
def takeTickets : Nat → ZoneRec → MakingBatch → ZoneRec × MakingBatch
  | 0, z, b => (z, b)
  | fuel + 1, z, b =>
    match z.due with
    | none => (z, b)
    | some (t, z') =>
      if b.fits t then takeTickets fuel z' { b with tickets := b.tickets ++ [t] } else (z, { b with closed := true })

/-- A batch is judged when the queues offer nothing more: full, or its hold run out (R109). -/
def MakingBatch.judge (b : MakingBatch) (base : Nat) : MakingBatch :=
  { b with
    closed :=
      b.closed || decide (Config.batchTickets ≤ b.tickets.length) || decide (Config.batchSlots ≤ slotsOf b.tickets)
        || decide (b.holdEnds ≤ base) }

/-- A batch opened now, with the batch holds in force (R107, R61). -/
def newBatch (s : State) : MakingBatch :=
  { closed := false, tickets := [], opened := s.sys.base
    priorityHold := s.sched.classes.priority.batchHold, normalHold := s.sched.classes.normal.batchHold }

/-! ## Requests (R118, R119) -/

/-- The group whose channel a zone uses. -/
def State.groupOf (s : State) (z : Zone) : GroupId := (s.zone z).homeGroup

/-- A zone joins its group's request set. -/
def addRequest (s : State) (z : Zone) : State :=
  let g := s.groupOf z
  s.setGroup g { s.group g with requests := ZoneSet.add (s.group g).requests z }

/-- A zone leaves its group's request set; the request is forgotten. -/
def withdrawRequest (s : State) (z : Zone) : State :=
  let g := s.groupOf z
  s.setGroup g { s.group g with requests := ZoneSet.remove (s.group g).requests z }

/-- A batch takes what the queues offer and is judged; one that closes places its request (R107 to R109). -/
def compose (s : State) (z : Zone) (b : MakingBatch) : State :=
  let taken := takeTickets ((s.zone z).queued.length + 1) (s.zone z) b
  let batch := taken.2.judge s.sys.base
  let s1 := s.setZone z { taken.1 with making := some batch }
  if batch.closed then addRequest s1 z else s1

/-- A zone's OPEN batch takes tickets; with no OPEN or CLOSED batch, a zone that takes tickets and holds some opens one
(R107). A CLOSED batch takes nothing. -/
def fillCore (s : State) (z : Zone) : State :=
  let r := s.zone z
  match r.making with
  | some b => if b.closed then s else compose s z b
  | none => if r.state.takesTickets && !r.queued.isEmpty then compose s z (newBatch s) else s

/-! ## Choice and grant (R120, R121, R110) -/

/-- The zones in search order from a pointer (R120). -/
def searchOrder (pointer : Zone) : List Zone := allZones.map fun k => pointer + 1 + k

/-- The zone's CLOSED batch holds an EMERGENCY ticket. -/
def ZoneRec.emergencyRequest (z : ZoneRec) : Bool :=
  match z.making with
  | some b => b.closed && holdsClass .emergency b.tickets
  | none => false

/-- The zone the arbiter chooses from the request set: the EMERGENCY pass, then the ordinary pass (R120). -/
def chooseZone (s : State) (g : GroupId) : Option Zone :=
  let requesting := (searchOrder (s.group g).pointer).filter fun z => ZoneSet.mem (s.group g).requests z
  match requesting.find? fun z => (s.zone z).emergencyRequest with
  | some z => some z
  | none => requesting.head?

/-- The entry a ticket makes, read from its page and the page's subscriber (R110). -/
def entryOf (s : State) (t : Ticket) : BatchEntry :=
  match s.page t.reference with
  | none => ⟨0, t.reference, .tone, []⟩
  | some p =>
    let air :=
      match s.sub p.subscriber with
      | some u => match u.body with | .pager q => q.air | .group _ => 0
      | none => 0
    ⟨air, t.reference, p.bodyKind, p.body⟩

/-- The CLOSED batch of a granted zone takes its number, becomes SENT, its entries are read, and it goes to the link (R110). -/
def handover (s : State) (z : Zone) : State :=
  let r := s.zone z
  match r.making with
  | none => s
  | some b =>
    linkHandover
      (s.setZone z
        { r with
          making := none
          site := some ⟨false, b.tickets, b.opened, r.nextBatch, none⟩
          nextBatch := r.nextBatch + 1 })
      z (b.tickets.map (entryOf s))

/-- A zone is granted its group's channel, hands over its batch, and has room for a new one (R121, R110, R107). -/
def grant (s : State) (g : GroupId) (z : Zone) : State :=
  let q := s.group g
  fillCore
    (handover (s.setGroup g { q with state := .granted z, pointer := z, requests := ZoneSet.remove q.requests z }) z) z

/-- A FREE group with requests grants the zone it chooses (R118, R123). -/
def tryGrant (s : State) (g : GroupId) : State :=
  match (s.group g).state with
  | .free => match chooseZone s g with | some z => grant s g z | none => s
  | _ => s

/-- A zone takes what its queues offer, and its group grants a request that finds it FREE (R107, R118). -/
def fill (s : State) (z : Zone) : State := tryGrant (fillCore s z) (s.groupOf z)

/-! ## Placing tickets (R103) -/

/-- A ticket at the tail of its class queue. -/
def ZoneRec.enqueue (z : ZoneRec) (t : Ticket) : ZoneRec :=
  match t.cls with
  | .emergency => { z with emergency := z.emergency ++ [t] }
  | .priority => { z with priority := z.priority ++ [t] }
  | .normal => { z with normal := z.normal ++ [t] }

/-- One ticket is placed in a zone that takes tickets, while the pool holds one; it is offered at once to the zone's batch. -/
def placeTicket (s : State) (t : Ticket) (z : Zone) : State × Nat :=
  if (s.zone z).state.takesTickets && decide (0 < s.pool) then
    (fill (s.setZone z ((s.zone z).enqueue t)) z, 1)
  else (s, 0)

/-- Tickets for a page over a list of zones, with the number placed (R103). -/
def placeTickets (s : State) (t : Ticket) (zones : List Zone) : State × Nat :=
  zones.foldl (fun (acc : State × Nat) z => let r := placeTicket acc.1 t z; (r.1, acc.2 + r.2)) (s, 0)

/-! ## Giving up the tickets of a page (R53) -/

/-- Tickets without those of a reference. -/
def dropReference (r : Nat) (l : List Ticket) : List Ticket := l.filter fun t => t.reference != r

/-- A zone without a page's unsent tickets, its tickets at the site made orphans (R53). -/
def ZoneRec.giveUp (z : ZoneRec) (r : Nat) : ZoneRec :=
  { z with
    emergency := dropReference r z.emergency
    priority := dropReference r z.priority
    normal := dropReference r z.normal
    making := z.making.map fun b => { b with tickets := dropReference r b.tickets }
    site :=
      z.site.map fun b =>
        { b with tickets := b.tickets.map fun t => if t.reference = r then { t with orphan := true } else t } }

/-- A page's tickets of one zone are given up; an unsent batch that loses one is judged afresh, and one left with none is
discarded with its request (R53, R106, R109). -/
def giveUpZone (s : State) (r : Nat) (z : Zone) : State :=
  let old := s.zone z
  let new := old.giveUp r
  match old.making with
  | none => s.setZone z new
  | some b =>
    if !b.tickets.any (fun t => t.reference == r) then s.setZone z new
    else if (dropReference r b.tickets).isEmpty then
      let s1 := s.setZone z { new with making := none }
      fill (if b.closed then withdrawRequest s1 z else s1) z
    else fill (s.setZone z new) z

/-- A page's tickets are given up in every zone, in ascending zone number (R53; the order is the model's choice, log 41). -/
def giveUpTickets (s : State) (r : Nat) : State := allZones.foldl (fun s z => giveUpZone s r z) s

/-- A page's tickets left at the sites (R56). -/
def State.ticketsAtSites (s : State) (r : Nat) : Nat :=
  countWhere (allZones.flatMap fun z => (s.zone z).atSite) fun t => t.reference == r

/-! ## Meter (R168) -/

/-- Slots are added to a zone's count if metering is enabled; the count stops at 65,535 (R167, R168). -/
def meterSlots (s : State) (z : Zone) (slots : Nat) : State :=
  if s.meter.enabled then
    let m := s.zoneMeter z
    s.setZoneMeter z { m with count := min 65535 (m.count + slots) }
  else s

/-! ## The end of a grant (R122) -/

/-- The grant of a zone's group ends into its guard. -/
def endGrant (s : State) (z : Zone) : State :=
  let g := s.groupOf z
  s.setGroup g { s.group g with state := .guarding (s.sys.base + (s.group g).guardTime) }

end Sys2Proof.Machine
end

