-- ==== Sys2Proof/Machine/Outcomes.lean ====
section
/-! DEFINITION. Machine/Outcomes.lean: the outcome of a page (R52 to R54), the moves between page states that the Retry Scheduler
decides (R154, R161 to R164), and the report of a finished ticket (R50). -/

namespace Sys2Proof.Machine

/-! ## Settlement (R54, R70 to R72) -/

/-- The units an outcome charges a page. -/
def Page.units (p : Page) (o : PageOutcome) : Nat := unitsCharged o p.transmissions p.estimate p.attemptFee

/-- The OUTCOME record of a page (R54). -/
def outcomeRecord (r : Nat) (p : Page) (o : PageOutcome) (zone : Option Zone) : JournalBody :=
  .outcome p.subscriber p.via r p.cls o (p.units o) p.body.length p.transmissions zone

/-- A page's account moves, its record is appended, LOW-BALANCE is checked, the page record is freed and announced, and
PAGE-OUTCOME is raised if the class asks for it (R54, R71, R72). -/
def settle (s : State) (r : Nat) (p : Page) (o : PageOutcome) (zone : Option Zone) : State :=
  let units := p.units o
  let s1 := s.modifyAccount p.account fun x => x.settle o units p.estimate
  let s2 := appendRecord s1 p.account (outcomeRecord r p o zone)
  let s3 := if 0 < units then checkLowBalance s2 p.account else s2
  let s4 := announce (s3.setStore { s3.store with pages := Table.erase s3.store.pages r })
  if (s4.params p.cls).outcomeNotices then raise s4 (.pageOutcome r p.subscriber p.via o units) else s4

/-! ## Outcome (R53) -/

/-- A page leaves every list of the scheduler, the ticket-wait list and its mailbox (R53). -/
def leaveLists (s : State) (r : Nat) (p : Page) : State :=
  let s1 :=
    s.setSched
      { s.sched with
        retryDue := timeRemove s.sched.retryDue r
        ackDeadline := timeRemove s.sched.ackDeadline r
        expiry := timeRemove s.sched.expiry r }
  let s2 := s1.setDispatch { s1.dispatch with ticketWait := s1.dispatch.ticketWait.filter fun x => x != r }
  if p.state = .held then s2.setMailbox p.subscriber ((s2.mailbox p.subscriber).filter fun x => x != r) else s2

/-- A page reaches its outcome: it gives up its tickets, leaves every list, and is settled (R52 to R54). -/
def reachOutcome (s : State) (r : Nat) (p : Page) (o : PageOutcome) (zone : Option Zone) : State :=
  settle (leaveLists (giveUpTickets s r) r p) r p o zone

/-! ## Moves of a live page -/

/-- A page goes to RETRY_WAIT with a due time, and enters the retry-due list (R154). -/
def retryAt (s : State) (r due : Nat) : State :=
  let due := clockTime due
  let s1 := s.modifyPage r fun p => { p with state := .retryWait, retryDue := some due, ackDeadline := none }
  s1.setSched { s1.sched with retryDue := timeInsert s1.sched.retryDue due r }

/-- A page goes to RETRY_WAIT a number of seconds from now. -/
def retryIn (s : State) (r seconds : Nat) : State := retryAt s r (s.now + seconds * 1000)

/-- A page goes to AWAIT_ACK with a deadline, and enters the ack-deadline list (R161). -/
def awaitAck (s : State) (r seconds : Nat) : State :=
  let due := clockTime (s.now + seconds * 1000)
  let s1 := s.modifyPage r fun p => { p with state := .awaitAck, retryDue := none, ackDeadline := some due }
  s1.setSched { s1.sched with ackDeadline := timeInsert s1.sched.ackDeadline due r }

/-- The pager of a page's subscriber. -/
def State.pagerOf (s : State) (p : Page) : Option Pager :=
  match s.sub p.subscriber with
  | some u => match u.body with | .pager q => some q | .group _ => none
  | none => none

/-- The page's subscriber is TWO_WAY. -/
def State.isTwoWay (s : State) (p : Page) : Bool :=
  match s.pagerOf p with
  | some q => q.kind == .twoWay
  | none => false

/-- The end of an attempt of a TWO_WAY page (R161). -/
def twoWayEnd (s : State) (r : Nat) (p : Page) : State :=
  if p.aired then awaitAck s r (s.params p.cls).ackWindow else retryIn s r (s.params p.cls).retryBase

/-- The end of an attempt of a one-way page (R162). -/
def oneWayEnd (s : State) (r : Nat) (p : Page) : State :=
  if p.aired then
    let p' := { p with attempts := p.attempts + 1 }
    let s1 := s.modifyPage r fun _ => p'
    if (s.params p.cls).oneWayRepeats ≤ p'.attempts then reachOutcome s1 r p' .delivered none
    else retryIn s1 r (s.params p.cls).repeatInterval
  else retryIn s r (s.params p.cls).retryBase

/-- The end of an attempt (R161, R162). -/
def attemptEnd (s : State) (r : Nat) (p : Page) : State :=
  if s.isTwoWay p then twoWayEnd s r p else oneWayEnd s r p

/-- A page's record after the finish of one of its tickets (R50). -/
def Page.ticketFinished (p : Page) (aired : Bool) : Page :=
  { p with
    ticketsOut := p.ticketsOut - 1
    aired := p.aired || aired
    transmissions := if aired then min 255 (p.transmissions + 1) else p.transmissions }

/-- The finish of a ticket that is not an orphan is reported to its page; the last one ends the attempt (R50). -/
def reportTicket (s : State) (r : Nat) (aired : Bool) : State :=
  match s.page r with
  | none => s
  | some p =>
    if p.state = .attempt then
      let p' := p.ticketFinished aired
      let s1 := s.modifyPage r fun _ => p'
      if p'.ticketsOut = 0 then attemptEnd s1 r p' else s1
    else s

/-- The finishes of some tickets are reported in order; orphans are not reported (R105). -/
def reportTickets (s : State) (tickets : List Ticket) (aired : Bool) : State :=
  tickets.foldl (fun s t => if t.orphan then s else reportTicket s t.reference aired) s

end Sys2Proof.Machine
end

