-- ==== Sys2Proof/Machine/Attempts.lean ====
section
/-! DEFINITION. Machine/Attempts.lean: attempt starts (R156 to R160) and the ticket-wait list (R104). -/

namespace Sys2Proof.Machine

/-- The stage a start uses: a one-way pager is always sought as at stage 1 (R157). -/
def startStage (q : Pager) (p : Page) : Nat := if q.kind = .twoWay then p.stage else 1

/-- The zone of the last registration. -/
def Pager.regZone (q : Pager) : Option Zone := q.lastReg.map Prod.fst

/-- The search set at a stage (R157). -/
def searchSet (q : Pager) (stage : Nat) : ZoneSet :=
  match stage with
  | 0 => ZoneSet.add 0 (q.regZone.getD q.home)
  | 1 =>
    let base := ZoneSet.add q.roaming q.home
    match q.regZone with | some z => ZoneSet.add base z | none => base
  | _ => 0xFF

/-- The search set in its order: the registered zone, the home zone, the others ascending (R158). -/
def orderedZones (q : Pager) (stage : Nat) : List Zone :=
  let zones := ZoneSet.zones (searchSet q stage)
  let first := match q.regZone with | some z => if zones.contains z then [z] else [] | none => []
  let second := if zones.contains q.home && !first.contains q.home then [q.home] else []
  first ++ second ++ zones.filter fun z => !first.contains z && !second.contains z

/-- The target set: the search set in order, less the zones that take no tickets (R158). -/
def targetSet (s : State) (q : Pager) (stage : Nat) : List Zone :=
  (orderedZones q stage).filter fun z => (s.zone z).state.takesTickets

/-- The ticket-wait list with a page placed by its class (R104). -/
def enterTicketWait (s : State) (r : Nat) (c : PageClass) : State :=
  let l := s.dispatch.ticketWait
  let isEmergency (x : Nat) : Bool := match s.page x with | some p => p.cls == .emergency | none => false
  let l' := if c = .emergency then l.takeWhile isEmergency ++ r :: l.dropWhile isEmergency else l ++ [r]
  s.setDispatch { s.dispatch with ticketWait := l' }

/-- The ticket of a page (R102). -/
def ticketOf (r : Nat) (p : Page) : Ticket := ⟨r, p.cls, slotCost p.bodyKind p.body.length, false⟩

/-- The state that follows a request for tickets (R160); aired this attempt is no in every case since the start (R50, log 52). -/
def afterPlacement (s : State) (r : Nat) (p : Page) (placed : Nat) : State :=
  if placed = 0 then
    enterTicketWait (s.modifyPage r fun p => { p with state := .waitTicket, retryDue := none, ackDeadline := none }) r p.cls
  else
    s.modifyPage r fun p => { p with state := .attempt, retryDue := none, ackDeadline := none, ticketsOut := placed }

/-- Every zone of the target set is congested and the page is NORMAL (R159). -/
def defers (s : State) (p : Page) (target : List Zone) : Bool :=
  p.cls == .normal && target.all fun z => (s.zoneMeter z).congested

/-- An attempt start, with the congestion test when a retry due causes it (R156 to R160). The page stands in no list and in no
queue when it starts. Every start sets aired this attempt to no (R50), also one that obtains no ticket, is deferred or finds no zone,
where R158 to R160 name no such write (the model's choice, log 52). -/
def attemptStart (s : State) (r : Nat) (congestionTest : Bool) : State :=
  match s.page r with
  | none => s
  | some p =>
    match s.pagerOf p with
    | none => s
    | some q =>
      let stage := startStage q p
      let s1 := s.modifyPage r fun p => { p with stage := stage, aired := false }
      let target := targetSet s1 q stage
      if target.isEmpty then retryIn s1 r (s.params p.cls).retryBase
      else if congestionTest && defers s p target then retryIn s1 r s.meter.interval
      else
        let placed := placeTickets s1 (ticketOf r p) target
        afterPlacement placed.1 r p placed.2

/-- The ticket-wait list is served while the pool holds a ticket (R104). -/
def serveTicketWait : List Nat → State → State
  | [], s => s
  | r :: rest, s =>
    if 0 < s.pool then
      serveTicketWait rest
        (attemptStart
          (s.setDispatch { s.dispatch with ticketWait := s.dispatch.ticketWait.filter fun x => x != r }) r false)
    else s

end Sys2Proof.Machine
end

