-- ==== Sys2Proof/Machine/Admission.lean ====
section
/-! DEFINITION. Machine/Admission.lean: page references and admission (R44 to R48). -/

namespace Sys2Proof.Machine

/-! ## Page references (R44) -/

/-- The references in use: live pages' and live tickets', orphans included. -/
def State.usedReferences (s : State) : List Nat :=
  s.store.pages.map Prod.fst ++ s.liveTickets.map fun t => t.2.reference

/-- The first value from the counter on that is neither 0 nor in use. `fuel` bounds the values passed over; when there are
no more than `fuel` of them, the value found is the first that is free (R44). -/
def nextReference (used : List Nat) : Nat → BitVec 16 → BitVec 16
  | 0, c => c
  | fuel + 1, c => if c = 0 ∨ used.contains c.toNat then nextReference used fuel (c + 1) else c

/-- The reference an allocation takes now. -/
def State.freshReference (s : State) : BitVec 16 :=
  let used := s.usedReferences
  nextReference used (used.length + 1) s.store.refCounter

/-! ## The request (R45) -/

/-- An admission request. -/
structure Request where
  index : Nat
  cls : PageClass
  override : Bool
  kind : BodyKind
  text : List Byte
  origin : Origin
  deriving DecidableEq, Repr

/-- A recipient accepts a body (R2, R46). -/
def acceptsBody (d : Directory) (kind : BodyKind) (length : Nat) (i : Nat) : Bool :=
  match Table.get d.subs i with
  | some u =>
    match u.body with
    | .pager q => if q.kind = .numeric then kind != .alpha && decide (length ≤ 40) else decide (length ≤ 240)
    | .group _ => false
  | none => false

/-- What the checks of admission give: the expansion, the estimate and the attempt fee of one page. -/
structure Admitted where
  expansion : Expansion
  estimate : Nat
  fee : Nat
  deriving DecidableEq, Repr

/-- The account is OPEN (R46, R64). -/
def Account.isOpen (a : Account) : Bool := a.state == .opened

/-- The checks of admission in their order (R46). An account that is not defined fails the account test; a defined account
always names a DEFINED plan (R66), so the last case is not reached (log 28). -/
def checkAdmission (s : State) (q : Request) : Except ECode Admitted :=
  match s.dir.expand q.index with
  | .error e => .error e
  | .ok x =>
    let m := x.recipients.length
    match s.account x.account with
    | none => .error .e03
    | some a =>
      if !a.isOpen then .error .e03
      else if !x.recipients.all (acceptsBody s.dir q.kind q.text.length) then .error .e08
      else if Config.maxPages < s.livePages + m ∨ s.freeSlots < m then .error .e09
      else
        match s.plan a.plan with
        | none => .error .e10
        | some p =>
          let e := p.estimate q.text.length q.cls x.via.isSome
          if !q.override && !a.creditPasses (m * e) then .error .e10 else .ok ⟨x, e, p.attemptFee⟩

/-- The record of a page as admission writes it (R47). Its state is written by the attempt start that follows in the event
(R48); no step ends with the state written here. -/
def newPage (s : State) (q : Request) (a : Admitted) (subscriber : Nat) : Page :=
  { subscriber := subscriber, via := a.expansion.via, account := a.expansion.account, origin := q.origin, cls := q.cls
    bodyKind := q.kind, body := q.text, override := q.override, state := .retryWait, attempts := 0, stage := 0
    ticketsOut := 0, aired := false, transmissions := 0, estimate := a.estimate, attemptFee := a.fee
    accepted := s.seconds, expiry := clockSeconds (s.seconds + (s.params q.cls).lifetime * 3600)
    retryDue := none, ackDeadline := none }

/-- One page is created: reference, record, reservation (R47). -/
def createPage (s : State) (q : Request) (a : Admitted) (subscriber : Nat) : State × Nat :=
  let ref := s.freshReference
  let s1 :=
    s.setStore
      { s.store with
        pages := Table.set s.store.pages ref.toNat (newPage s q a subscriber)
        refCounter := ref + 1 }
  (reserve s1 a.expansion.account a.estimate, ref.toNat)

/-- The pages of a recipient list, in order, with their references. -/
def createPages (q : Request) (a : Admitted) : List Nat → State → State × List Nat
  | [], s => (s, [])
  | i :: rest, s =>
    let r := createPage s q a i
    let r' := createPages q a rest r.1
    (r'.1, r.2 :: r'.2)

/-- A page enters the expiry list and its attempt 0 starts (R48). -/
def startPage (s : State) (r : Nat) : State :=
  match s.page r with
  | none => s
  | some p =>
    attemptStart (s.setSched { s.sched with expiry := timeInsert s.sched.expiry (p.expiry * 1000) r }) r false

/-- Admission: all the pages of the request, or a refusal that changes nothing (R45 to R48). -/
def requestAdmission (s : State) (q : Request) : Except ECode (State × List Nat) :=
  match checkAdmission s q with
  | .error e => .error e
  | .ok a =>
    let created := createPages q a a.expansion.recipients s
    .ok (created.2.foldl startPage created.1, created.2)

end Sys2Proof.Machine
end

