-- ==== Sys2Proof/Machine/Entry.lean ====
section
/-! DEFINITION. Machine/Entry.lean: the grammar of an entry (02): the number and its markers (R28), escapes (R29), and the
expansion of a body (R32). -/

namespace Sys2Proof.Machine

/-! ## The number stage (R28) -/

/-- What an entry addresses. -/
inductive Address where
  | number (n : Nat)
  | index (i : Nat)
  deriving DecidableEq, Repr

/-- A number keyed in, with its markers. -/
structure Keyed where
  address : Address
  priority : Bool
  emergency : Bool
  override : Bool
  deriving DecidableEq, Repr

/-- The value of some digits, if they are all digits. -/
def digitsValue (l : List Byte) : Option Nat :=
  if l.all isDigit then some (l.foldl (fun acc c => acc * 10 + digitValue c) 0) else none

/-- The markers behind an address: *1, *2 and *9, none twice, *1 and *2 not together (R28). -/
def readMarkers : List Byte → Keyed → Option Keyed
  | [], k => some k
  | 0x2A#8 :: 0x31#8 :: rest, k =>
    if k.priority || k.emergency then none else readMarkers rest { k with priority := true }
  | 0x2A#8 :: 0x32#8 :: rest, k =>
    if k.priority || k.emergency then none else readMarkers rest { k with emergency := true }
  | 0x2A#8 :: 0x39#8 :: rest, k => if k.override then none else readMarkers rest { k with override := true }
  | _ :: _, _ => none

/-- The form of a number buffer: seven digits, or ** and four digits that give an index, and markers (R28). -/
def readNumber (buffer : List Byte) : Option Keyed :=
  if buffer.take 2 = [0x2A#8, 0x2A#8] then
    let rest := buffer.drop 2
    if rest.length < 4 then none
    else
      match digitsValue (rest.take 4) with
      | some i => if i ≤ 4095 then readMarkers (rest.drop 4) ⟨.index i, false, false, false⟩ else none
      | none => none
  else if buffer.length < 7 then none
  else
    match digitsValue (buffer.take 7) with
    | some n => readMarkers (buffer.drop 7) ⟨.number n, false, false, false⟩
    | none => none

/-- The index an address resolves to (R6, R28). -/
def resolveAddress (d : Directory) : Address → Option Nat
  | .number n => (d.resolve n).map Prod.snd
  | .index i => if Table.has d.subs i then some i else none

/-- The address or a marker needs a CONSOLE line (R28). -/
def Keyed.consoleOnly (k : Keyed) : Bool :=
  (match k.address with | .index _ => true | .number _ => false) || k.priority || k.emergency || k.override

/-- The class of an entry: by marker, else the addressed record's default (R28). -/
def Keyed.cls (k : Keyed) (d : Directory) (i : Nat) : PageClass :=
  if k.emergency then .emergency
  else if k.priority then .priority
  else match Table.get d.subs i with | some u => u.defaultClass | none => .normal

/-- The recipient is of kind NUMERIC. -/
def isNumeric (d : Directory) (i : Nat) : Bool :=
  match Table.get d.subs i with | some u => u.kind == .numeric | none => false

/-- The number checks in their order (R28). -/
def numberChecks (s : State) (cls : LineClass) (buffer : List Byte) : Except ECode EntryHead :=
  match readNumber buffer with
  | none => .error .e01
  | some k =>
    match resolveAddress s.dir k.address with
    | none => .error .e01
    | some i =>
      match s.dir.expand i with
      | .error e => .error e
      | .ok x =>
        match s.account x.account with
        | none => .error .e03
        | some a =>
          if a.state ≠ .opened then .error .e03
          else if cls = .caller ∧ k.consoleOnly then .error .e04
          else .ok ⟨i, k.cls s.dir i, k.override, if x.recipients.any (isNumeric s.dir) then 40 else 240⟩

/-! ## Escapes (R29) -/

/-- Where a text stands in its escapes: none open, behind a *, behind the first digit of a phrase reference. -/
inductive EscapeState where
  | plain
  | star
  | digit
  deriving DecidableEq, Repr

/-- A character behind a * that closes or goes on with the escape. -/
def afterStar (c : Byte) : Option EscapeState :=
  if c = 0x2A#8 ∨ c = 0x23#8 ∨ c = 0x2D#8 ∨ c = 0x5F#8 then some .plain
  else if isDigit c then some .digit
  else none

/-- One character of a text; nothing for an illegal escape. -/
def EscapeState.next (e : EscapeState) (c : Byte) : Option EscapeState :=
  match e with
  | .plain => if c = 0x2A#8 then some .star else some .plain
  | .star => afterStar c
  | .digit => if isDigit c then some .plain else none

/-- Where a whole text stands; nothing if it holds an illegal escape. -/
def escapeState (text : List Byte) : Option EscapeState :=
  text.foldl (fun e c => e.bind fun e => e.next c) (some .plain)

/-! ## Expansion (R32) -/

/-- A character is written to the body; one beyond the limit fails with E07. -/
def emit (limit : Nat) (out : List Byte) (c : Byte) : Except ECode (List Byte) :=
  if out.length < limit then .ok (out ++ [c]) else .error .e07

/-- What an escape other than a phrase reference writes. -/
def escapeOutput (c : Byte) : Byte := if c = 0x5F#8 then 0x20#8 else c

/-- A text is walked: literals and escapes are written, and a phrase reference is handed on (R32). -/
def walkText (limit : Nat) (reference : Nat → List Byte → Except ECode (List Byte)) :
    List Byte → List Byte → Except ECode (List Byte)
  | [], out => .ok out
  | [c], out => emit limit out c
  | [c, d], out =>
    if c = 0x2A#8 then emit limit out (escapeOutput d)
    else match emit limit out c with | .ok out => emit limit out d | .error e => .error e
  | c :: d :: e :: rest, out =>
    if c = 0x2A#8 then
      if isDigit d then
        match reference (digitValue d * 10 + digitValue e) out with
        | .ok out => walkText limit reference rest out
        | .error x => .error x
      else
        match emit limit out (escapeOutput d) with
        | .ok out => walkText limit reference (e :: rest) out
        | .error x => .error x
    else
      match emit limit out c with
      | .ok out => walkText limit reference (d :: e :: rest) out
      | .error x => .error x

/-- A reference at a depth: inside a depth-2 phrase E06; else the phrase's text is walked, E05 if it is UNDEFINED (R32).
`depth` counts the depths still allowed. -/
def walkReference (phrases : Table (List Byte)) (limit : Nat) : Nat → Nat → List Byte → Except ECode (List Byte)
  | 0, _, _ => .error .e06
  | depth + 1, n, out =>
    match Table.get phrases n with
    | none => .error .e05
    | some text => walkText limit (walkReference phrases limit depth) text out

/-- The expansion of a raw body (R32). -/
def expandBody (phrases : Table (List Byte)) (limit : Nat) (raw : List Byte) : Except ECode (List Byte) :=
  walkText limit (walkReference phrases limit 2) raw []

end Sys2Proof.Machine
end

