-- ==== Sys2Proof/Machine/Lines.lean ====
section
/-! DEFINITION. Machine/Lines.lean: the Intake Line Controller (02): the receive ring, the entry assembler, timers and prompts, the
console admission wait, and the line and phrase orders. -/

namespace Sys2Proof.Machine

/-! ## The receive ring (R19, R20) -/

/-- A received byte is stored at the tail; an OPEN clears the overrun-noticed flag (R19). -/
def Line.store (l : Line) (b : Byte) : Line :=
  let l1 := { l with ring := l.ring ++ [(b, false)], written := l.written + 1 }
  { l1 with
    overrunNoticed := if b = 0x11#8 then false else l.overrunNoticed
    hold := holdAfterArrival l1.fill l.hold }

/-- The newest byte of a ring marked for a loss behind it (R19). -/
def markNewest : List (Byte × Bool) → List (Byte × Bool)
  | [] => []
  | [(b, _)] => [(b, true)]
  | x :: rest => x :: markNewest rest

/-- A byte that finds the ring full is lost (R19). -/
def loseByte (s : State) (n : LineId) : State :=
  let l := s.line n
  let s1 := s.setLine n { l with ring := markNewest l.ring, overrunNoticed := true }
  if l.overrunNoticed then s1 else raise s1 (.lineOverrun n)

/-- LINE_BYTE_RECEIVED (R19): a byte with a framing error is as if never sent; in STANDBY a byte is discarded. -/
def execLineByteReceived (n : LineId) (b : Byte) (framingError : Bool) (s : State) : Out :=
  if framingError || !s.running then .next s
  else if (s.line n).fill < Config.ringSize then finish (s.setLine n ((s.line n).store b))
  else finish (loseByte s n)

/-! ## Consumption (R20 to R22) -/

/-- The byte the assembler of a line can consume now, with its loss mark (R22). -/
def canConsume (s : State) (n : LineId) : Option (Byte × Bool) :=
  let l := s.line n
  if s.running && !l.paused && l.prompt.isNone then l.ring.head? else none

/-- The head byte leaves the ring (R19, R20). -/
def Line.consume (l : Line) : Line :=
  let l1 := { l with ring := l.ring.tail, read := l.read + 1 }
  { l1 with hold := holdAfterConsumption l1.fill l.hold }

/-- After a byte has been handled, its loss mark sets the overrun latch (R21). -/
def applyMark (s : State) (n : LineId) (mark : Bool) : State :=
  if mark then s.setLine n { s.line n with overrunLatch := true } else s

/-! ## Timers (R26) -/

/-- The length of the timer of a state: idle in AWAIT_NUMBER, entry in NUMBER, AWAIT_BODY and BODY (R26). -/
def Line.timerSeconds (l : Line) : Option Nat :=
  match l.asm with
  | .awaitNumber => some l.idleTimeout
  | .number _ => some l.entryTimeout
  | .awaitBody _ => some l.entryTimeout
  | .body _ _ => some l.entryTimeout
  | _ => none

/-- The timer started from zero where a timed state has no prompt in progress and no pause, else stopped (R26). -/
def Line.restartTimer (l : Line) (base : Nat) : Line :=
  { l with
    timer := if l.prompt.isNone && !l.paused then l.timerSeconds.map fun t => base + t * 1000 else none }

/-- A line takes an assembler state; its timer starts as that state has one. -/
def enter (s : State) (n : LineId) (asm : Assembler) : State :=
  s.setLine n ({ s.line n with asm := asm }.restartTimer s.sys.base)

/-- A line gives a prompt, whose token goes out on its TXD (whole, log 38), and takes an assembler state; entering AWAIT_NUMBER clears the
overrun latch (R21, R25). -/
def promptInto (s : State) (n : LineId) (p : Prompt) (asm : Assembler) : State :=
  let l := s.line n
  s.setLine n
    { l with
      prompt := some p, txd := p.token, asm := asm, timer := none, waitLimit := none
      overrunLatch := if asm = .awaitNumber then false else l.overrunLatch }

/-- A prompt that ends an entry: the line waits for the next one (R25). -/
def endEntry (s : State) (n : LineId) (p : Prompt) : State := promptInto s n p .awaitNumber

/-! ## The console admission wait list (R34 to R36) -/

/-- A line leaves the wait list; when the head leaves, the next line retries in turn (R35, log 20). -/
def leaveWait (s : State) (n : LineId) : State :=
  let l := s.intake.waitList
  let l' := l.filter fun x => x != n
  s.setIntake
    { s.intake with
      waitList := l'
      announcements :=
        if l'.isEmpty then 0
        else if l.head? = some n then s.intake.announcements + 1
        else s.intake.announcements }

/-- A CONSOLE line refused with E09 waits for room (R34). -/
def enterWait (s : State) (n : LineId) (h : EntryHead) (kind : BodyKind) (text : List Byte) : State :=
  let s1 :=
    s.setLine n
      { s.line n with
        asm := .admitWait h kind text, timer := none, waitLimit := some (s.sys.base + Config.admitWaitLimit) }
  s1.setIntake { s1.intake with waitList := s1.intake.waitList ++ [n] }

/-- The admission request of an entry (R33). -/
def entryRequest (n : LineId) (h : EntryHead) (kind : BodyKind) (text : List Byte) : Request :=
  ⟨h.index, h.cls, h.override, kind, text, .line n⟩

/-- Prompt A for the references of an admission (R25). -/
def acceptedPrompt (refs : List Nat) : Prompt := .a (refs.headD 0) refs.length

/-! ## The body's end (R33) -/

/-- The admission of an entry and what the line makes of its result (R33). -/
def admitEntry (s : State) (n : LineId) (h : EntryHead) (text : List Byte) : State :=
  let kind := bodyKindOf text
  match requestAdmission s (entryRequest n h kind text) with
  | .ok (s', refs) => endEntry s' n (acceptedPrompt refs)
  | .error .e09 =>
    if (s.line n).cls = .console then enterWait s n h kind text else endEntry s n (.e .e09)
  | .error e => endEntry s n (.e e)

/-- The body checks (R33). -/
def endBody (s : State) (n : LineId) (h : EntryHead) (raw : List Byte) : State :=
  if (s.line n).overrunLatch then endEntry s n (.e .e11)
  else
    match expandBody s.intake.phrases h.limit raw with
    | .error e => endEntry s n (.e e)
    | .ok text => admitEntry s n h text

/-! ## Dialogue characters (R27 to R30) -/

/-- The # that ends the number stage: the number checks (R28). -/
def endNumber (s : State) (n : LineId) (buffer : List Byte) : State :=
  match numberChecks s (s.line n).cls buffer with
  | .error e => endEntry s n (.e e)
  | .ok h => promptInto s n .m (.awaitBody h)

/-- A character of the number stage: a digit or a * (R27). -/
def isNumberChar (c : Byte) : Bool := isDigit c || c == 0x2A#8

/-- A character consumed in the number stage (R27). -/
def numberChar (s : State) (n : LineId) (buffer : List Byte) (c : Byte) : State :=
  if c = 0x23#8 then endNumber s n buffer
  else if !isNumberChar c then promptInto s n (.e .e13) .skip
  else if 16 ≤ buffer.length then promptInto s n (.e .e13) .skip
  else enter s n (.number (buffer ++ [c]))

/-- A character the body of a line's class accepts (R29). -/
def isBodyChar (cls : LineClass) (c : Byte) : Bool :=
  match cls with
  | .caller => isDigit c || c == 0x2A#8 || c == 0x23#8
  | .console => printable c

/-- A character consumed in the body stage (R29); an illegal one is judged before the length (log 27). -/
def bodyChar (s : State) (n : LineId) (h : EntryHead) (raw : List Byte) (c : Byte) : State :=
  match escapeState raw with
  | none => promptInto s n (.e .e13) .skip
  | some e =>
    if c = 0x23#8 ∧ e = .plain then endBody s n h raw
    else if !isBodyChar (s.line n).cls c || (e.next c).isNone then promptInto s n (.e .e13) .skip
    else if 480 ≤ raw.length then promptInto s n (.e .e07) .skip
    else enter s n (.body h (raw ++ [c]))

/-- A character consumed in SKIP: the first # ends it (R30). -/
def skipChar (s : State) (n : LineId) (c : Byte) : State :=
  if c = 0x23#8 then enter (s.setLine n { s.line n with overrunLatch := false }) n .awaitNumber else s

/-- CR or LF on a CONSOLE line, discarded in every state (R22). -/
def isConsoleBreak (cls : LineClass) (c : Byte) : Bool := cls == .console && (c == 0x0D#8 || c == 0x0A#8)

/-- A byte other than OPEN and CLOSE, handled by the state of the assembler (R22). -/
def handleChar (s : State) (n : LineId) (c : Byte) : State :=
  if isConsoleBreak (s.line n).cls c then s
  else
    match (s.line n).asm with
    | .closed => s
    | .awaitNumber => numberChar s n [] c
    | .number buffer => numberChar s n buffer c
    | .awaitBody h => bodyChar s n h [] c
    | .body h raw => bodyChar s n h raw c
    | .admitWait _ _ _ => s
    | .skip => skipChar s n c

/-- LINE_CHARACTER_CONSUMED: a byte other than OPEN and CLOSE is consumed (R22). -/
def execLineCharacterConsumed (n : LineId) (s : State) : Out :=
  match canConsume s n with
  | none => .next s
  | some (c, mark) =>
    if c = 0x11#8 ∨ c = 0x12#8 then .next s
    else finish (applyMark (handleChar (s.setLine n (s.line n).consume) n c) n mark)

/-! ## OPEN and CLOSE (R23, R24) -/

/-- LINE_OPEN: an OPEN is consumed; an entry in progress is abandoned and a new one starts with prompt N (R23). -/
def execLineOpen (n : LineId) (s : State) : Out :=
  match canConsume s n with
  | some (0x11#8, mark) =>
    finish (applyMark (endEntry (leaveWait (s.setLine n (s.line n).consume) n) n .n) n mark)
  | _ => .next s

/-- A line's call is over: CLOSED, its entry discarded, no timer (R24). -/
def Line.hangUp (l : Line) : Line := { l with asm := .closed, timer := none, waitLimit := none }

/-- LINE_CLOSE: a CLOSE is consumed (R24). -/
def execLineClose (n : LineId) (s : State) : Out :=
  match canConsume s n with
  | some (0x12#8, mark) =>
    let s1 := leaveWait (s.setLine n (s.line n).consume) n
    finish (applyMark (s1.setLine n (s1.line n).hangUp) n mark)
  | _ => .next s

/-! ## Prompts and timeouts (R25, R26) -/

/-- PROMPT_SENT: the CR of a prompt has gone, and the timer of a timed state starts (R25, R26). -/
def execPromptSent (n : LineId) (s : State) : Out :=
  if (s.line n).prompt.isSome then
    finish (s.setLine n ({ s.line n with prompt := none, txd := [] }.restartTimer s.sys.base))
  else .next s

/-- ENTRY_TIMEOUT (R26). -/
def execEntryTimeout (n : LineId) (s : State) : Out :=
  match (s.line n).timer, (s.line n).asm with
  | some ends, .number _ => finish (endEntry (elapseTo s ends) n .t)
  | some ends, .awaitBody _ => finish (endEntry (elapseTo s ends) n .t)
  | some ends, .body _ _ => finish (endEntry (elapseTo s ends) n .t)
  | _, _ => .next s

/-- IDLE_TIMEOUT (R26). -/
def execIdleTimeout (n : LineId) (s : State) : Out :=
  match (s.line n).timer, (s.line n).asm with
  | some ends, .awaitNumber => finish (promptInto (elapseTo s ends) n .x .closed)
  | _, _ => .next s

/-! ## ADMIT_WAIT_RETRY and ADMIT_WAIT_LIMIT (R35, R36) -/

/-- The admission of the line at the head of the wait list is made again (R35). -/
def retryHead (s : State) (n : LineId) (h : EntryHead) (kind : BodyKind) (text : List Byte) : State :=
  match requestAdmission s (entryRequest n h kind text) with
  | .ok (s', refs) => endEntry (leaveWait s' n) n (acceptedPrompt refs)
  | .error .e09 => s
  | .error e => endEntry (leaveWait s n) n (.e e)

/-- One announcement is used up (log 20). -/
def spendAnnouncement (s : State) : State :=
  s.setIntake { s.intake with announcements := s.intake.announcements - 1 }

/-- ADMIT_WAIT_RETRY: after room frees, or when it becomes head (R35). -/
def execAdmitWaitRetry (s : State) : Out :=
  match s.intake.waitList with
  | [] => .next s
  | n :: _ =>
    match (s.line n).asm with
    | .admitWait h kind text =>
      if s.running && decide (0 < s.intake.announcements) then finish (retryHead (spendAnnouncement s) n h kind text)
      else .next s
    | _ => .next s

/-- ADMIT_WAIT_LIMIT (R36). -/
def execAdmitWaitLimit (n : LineId) (s : State) : Out :=
  match (s.line n).waitLimit with
  | some ends => finish (endEntry (leaveWait (elapseTo s ends) n) n (.e .e09))
  | none => .next s

/-! ## LINE-CONFIG, LINE-PAUSE, LINE-RESUME, LINE-QUERY (R37 to R39) -/

/-- A line's settings may not change in RUNNING during a call or a prompt (R38). -/
def lineBusy (s : State) (n : LineId) : Bool :=
  s.running && ((s.line n).asm != .closed || (s.line n).prompt.isSome)

/-- LINE-CONFIG (R38): CALLER 00h, CONSOLE 01h, the rate as a number of bit/s (log 40). -/
def orderLineConfig (body : List Byte) (s : State) : State × Result :=
  match readFields [1, 1, 2, 1, 1] body with
  | some [n, c, rate, entry, idle] =>
    match finOf 16 n, yesNoOf c, lineRateOf rate, within 5 60 entry, within 10 120 idle with
    | some n, some console, some rate, some entry, some idle =>
      if lineBusy s n then (s, .state)
      else
        (s.setLine n
          { s.line n with
            cls := if console then .console else .caller, rate := rate, entryTimeout := entry, idleTimeout := idle },
          .done [])
    | _, _, _, _, _ => (s, .badValue)
  | _ => (s, .badForm)

/-- LINE-PAUSE (R37). -/
def orderLinePause (body : List Byte) (s : State) : State × Result :=
  match readFields [1] body with
  | some [n] =>
    match finOf 16 n with
    | some n => (s.setLine n { s.line n with paused := true, timer := none }, .done [])
    | none => (s, .badValue)
  | _ => (s, .badForm)

/-- The pause flag cleared; the timer of a timed state starts from zero (R37). -/
def Line.resume (l : Line) (base : Nat) : Line := if l.paused then { l with paused := false }.restartTimer base else l

/-- LINE-RESUME (R37). -/
def orderLineResume (body : List Byte) (s : State) : State × Result :=
  match readFields [1] body with
  | some [n] =>
    match finOf 16 n with
    | some n => (s.setLine n ((s.line n).resume s.sys.base), .done [])
    | none => (s, .badValue)
  | _ => (s, .badForm)

/-- A line's place in the wait list, 1 for the head. -/
def waitPosition (s : State) (n : LineId) : Option Nat := (s.intake.waitList.findIdx? fun x => x == n).map (· + 1)

/-- LINE-QUERY (R39), the rate as a number of bit/s (log 40), the pause flag, the overrun latch and the overrun-noticed flag as yes or no
(log 49). -/
def orderLineQuery (body : List Byte) (s : State) : State × Result :=
  match readFields [1] body with
  | some [n] =>
    match finOf 16 n with
    | none => (s, .badValue)
    | some n =>
      let l := s.line n
      (s, .done
        (l.cls.code :: (be 2 l.rate ++ be 1 l.entryTimeout ++ be 1 l.idleTimeout ++ [l.asm.code]
          ++ be 2 l.written.toNat ++ be 2 l.read.toNat ++ be 2 l.fill
          ++ [yesNo l.hold, yesNo l.paused, yesNo l.overrunLatch, yesNo l.overrunNoticed, yesNo l.prompt.isSome]
          ++ optField 1 (waitPosition s n))))
  | _ => (s, .badForm)

/-! ## PHRASE-SET, PHRASE-CLEAR, PHRASE-QUERY (R40, R41) -/

/-- A phrase text: printable, not empty, every * opening a complete escape (R31, R40). -/
def phraseText (text : List Byte) : Bool :=
  !text.isEmpty && text.all printable && escapeState text == some .plain

/-- PHRASE-SET (R40). -/
def orderPhraseSet (body : List Byte) (s : State) : State × Result :=
  match takeNat 1 body, readText 40 (body.drop 1) with
  | some (n, _), some text =>
    if 99 < n ∨ phraseText text = false then (s, .badValue)
    else (s.setIntake { s.intake with phrases := Table.set s.intake.phrases n text }, .done [])
  | _, _ => (s, .badForm)

/-- PHRASE-CLEAR (R40). -/
def orderPhraseClear (body : List Byte) (s : State) : State × Result :=
  match readFields [1] body with
  | some [n] =>
    if 99 < n then (s, .badValue)
    else if !Table.has s.intake.phrases n then (s, .unknown)
    else (s.setIntake { s.intake with phrases := Table.erase s.intake.phrases n }, .done [])
  | _ => (s, .badForm)

/-- PHRASE-QUERY (R41): UNDEFINED 00h, DEFINED 01h; the text behind its presence byte. -/
def orderPhraseQuery (body : List Byte) (s : State) : State × Result :=
  match readFields [1] body with
  | some [n] =>
    if 99 < n then (s, .badValue)
    else
      match Table.get s.intake.phrases n with
      | some text => (s, .done (1 :: 1 :: (be 1 text.length ++ text)))
      | none => (s, .done [0, 0, 0])
  | _ => (s, .badForm)

/-! ## The order commands -/

def execLineConfig (s : State) : Out := runOrder s (ofKind 0x0A) orderLineConfig
def execLinePause (s : State) : Out := runOrder s (ofKind 0x0B) orderLinePause
def execLineResume (s : State) : Out := runOrder s (ofKind 0x0C) orderLineResume
def execLineQuery (s : State) : Out := runOrder s (ofKind 0x0D) orderLineQuery
def execPhraseSet (s : State) : Out := runOrder s (ofKind 0x0E) orderPhraseSet
def execPhraseClear (s : State) : Out := runOrder s (ofKind 0x0F) orderPhraseClear
def execPhraseQuery (s : State) : Out := runOrder s (ofKind 0x10) orderPhraseQuery

end Sys2Proof.Machine
end

