-- ==== Sys2Proof/Machine/Meters.lean ====
section
/-! DEFINITION. Machine/Meters.lean: the Traffic Meter (10): the end of an interval, the congested flag, and the meter orders. -/

namespace Sys2Proof.Machine

/-! ## The congested flag (R170) -/

/-- A zone's congested flag is written; a change raises its notice (R170). -/
def writeCongested (s : State) (z : Zone) (congested : Bool) : State :=
  let m := s.zoneMeter z
  if congested == m.congested then s
  else raise (s.setZoneMeter z { m with congested := congested }) (.congestionChange z congested m.average m.threshold m.hysteresis)

/-- A zone's congested flag is evaluated (R170). -/
def evalCongested (s : State) (z : Zone) : State :=
  let m := s.zoneMeter z
  writeCongested s z (congestedAfter m.average m.threshold m.hysteresis m.congested)

/-! ## The end of an interval (R169) -/

/-- The average moved toward a sample by their difference divided by 2 to the power N, rounded down toward minus infinity
(R169). -/
def movedAverage (average sample weight : Nat) : Nat :=
  ((average : Int) + ((sample : Int) - (average : Int)) / ((2 ^ weight : Nat) : Int)).toNat

/-- Sample, count, peak and average at an interval end (R169). -/
def ZoneMeter.intervalEnd (m : ZoneMeter) (weight : Nat) : ZoneMeter :=
  { m with
    sample := m.count
    count := 0
    peak := max m.peak m.count
    average := movedAverage m.average m.count weight }

/-- One zone takes the interval end (R169). -/
def zoneIntervalEnd (s : State) (z : Zone) : State :=
  evalCongested (s.setZoneMeter z ((s.zoneMeter z).intervalEnd s.meter.weight)) z

/-- The interval timer's end: the timer starts the next interval, and every zone has the end to take (R169). -/
def Meter.intervalOver (m : Meter) (ends : Nat) : Meter :=
  { m with timer := some (ends + m.interval * 1000), owing := allZones }

/-- The first zone that has an end to take takes it (R169). -/
def takeIntervalEnd (s : State) : State :=
  match s.meter.owing with
  | [] => s
  | z :: rest => zoneIntervalEnd (s.setMeter { s.meter with owing := rest }) z

/-- METER_INTERVAL_END: one zone's meter takes an interval end, as an event of its own. Once every zone has taken the last end,
the interval timer's next end is reached (R169; the zones in ascending number, log 30). -/
def execMeterIntervalEnd (s : State) : Out :=
  if s.meter.owing ≠ [] then finish (takeIntervalEnd s)
  else
    match s.meter.timer with
    | none => .next s
    | some ends =>
      let s1 := elapseTo s ends
      finish (takeIntervalEnd (s1.setMeter (s1.meter.intervalOver ends)))

/-! ## METER-CONFIG (R171) -/

/-- Every count becomes 0 without a sample; an interval end not taken yet is dropped with its interval (log 30). -/
def zeroCounts (s : State) : State :=
  s.setMeter { s.meter with zones := bankMap s.meter.zones fun _ m => { m with count := 0 }, owing := [] }

/-- The meters act by the enable after METER-CONFIG (R171), zones in ascending number (log 45). -/
def applyMeterConfig (s : State) : State :=
  if !s.meter.enabled then
    allZones.foldl (fun s z => writeCongested s z false) (zeroCounts (s.setMeter { s.meter with timer := none }))
  else if s.running then
    allZones.foldl evalCongested
      (zeroCounts (s.setMeter { s.meter with timer := some (s.sys.base + s.meter.interval * 1000) }))
  else s

/-- The meter configuration replaced. -/
def Meter.withConfig (m : Meter) (enabled : Bool) (interval weight : Nat) (pairs : List (Nat × Nat)) : Meter :=
  { m with
    enabled := enabled
    interval := interval
    weight := weight
    zones :=
      bankMap m.zones fun z x =>
        match pairs[z.val]? with
        | some p => { x with threshold := p.1, hysteresis := p.2 }
        | none => x }

/-- METER-CONFIG (R171): ENABLED 00h, DISABLED 01h, the interval as a number of seconds (log 40). -/
def orderMeterConfig (body : List Byte) (s : State) : State × Result :=
  match readFields [1, 1, 1, 2, 2, 2, 2, 2, 2, 2, 2, 2, 2, 2, 2, 2, 2, 2, 2] body with
  | some (e :: interval :: weight :: pairs) =>
    match firstListedOf e, [1, 2, 5, 10].contains interval, within 1 7 weight, meterPairs pairs with
    | some enabled, true, some weight, some pairs =>
      (applyMeterConfig (s.setMeter (s.meter.withConfig enabled interval weight pairs)), .done [])
    | _, _, _, _ => (s, .badValue)
  | _ => (s, .badForm)

/-! ## METER-RESET (R172), METER-READ (R173) -/

/-- The zone and item fields of a well-formed METER-RESET: PEAK 00h, AVERAGE 01h. -/
def resetFields (body : List Byte) : Option (Nat × Nat) :=
  match readFields [1, 1] body with
  | some [z, item] => some (z, item)
  | _ => none

/-- The order resets averages (log 5). -/
def isResetAverage (o : Order) : Bool :=
  o.kind == 0x2F#8 && match resetFields o.body with | some (_, item) => item == 1 | none => false

/-- Any other METER-RESET order (log 5). -/
def isResetPeak (o : Order) : Bool := o.kind == 0x2F#8 && !isResetAverage o

/-- The peak of a zone becomes 0. -/
def resetPeak (s : State) (z : Zone) : State := s.setZoneMeter z { s.zoneMeter z with peak := 0 }

/-- The average of a zone becomes 0 and its flag no (R172). -/
def resetAverage (s : State) (z : Zone) : State :=
  writeCongested (s.setZoneMeter z { s.zoneMeter z with average := 0 }) z false

/-- METER-RESET with item PEAK (R172); an item out of range is refused here (log 5). -/
def orderMeterResetPeak (body : List Byte) (s : State) : State × Result :=
  match resetFields body with
  | none => (s, .badForm)
  | some (z, item) =>
    match zonesOrAll z with
    | none => (s, .badValue)
    | some zones => if item = 0 then (zones.foldl resetPeak s, .done []) else (s, .badValue)

/-- METER-RESET with item AVERAGE (R172), zones in ascending number (log 45). -/
def orderMeterResetAverage (body : List Byte) (s : State) : State × Result :=
  match resetFields body with
  | none => (s, .badForm)
  | some (z, _) =>
    match zonesOrAll z with
    | none => (s, .badValue)
    | some zones => (zones.foldl resetAverage s, .done [])

/-- A zone's values as METER-READ carries them. -/
def meterFields (m : ZoneMeter) : List Byte :=
  be 2 m.threshold ++ be 2 m.hysteresis ++ be 2 m.count ++ be 2 m.sample ++ be 2 m.peak ++ be 2 m.average
    ++ [yesNo m.congested]

/-- METER-READ (R173): a zone, or ALL 08h; the interval as a number of seconds (log 40). -/
def orderMeterRead (body : List Byte) (s : State) : State × Result :=
  match readFields [1] body with
  | some [z] =>
    match zonesOrAll z with
    | none => (s, .badValue)
    | some zones =>
      (s, .done
        (firstListed s.meter.enabled :: (be 1 s.meter.interval ++ be 1 s.meter.weight
          ++ optField 2 (s.meter.timer.map fun ends => ends - s.sys.base)
          ++ be 1 zones.length ++ zones.flatMap (fun z => meterFields (s.zoneMeter z)))))
  | _ => (s, .badForm)

def execMeterConfig (s : State) : Out := runOrder s (ofKind 0x2E) orderMeterConfig
def execMeterResetPeak (s : State) : Out := runOrder s isResetPeak orderMeterResetPeak
def execMeterResetAverage (s : State) : Out := runOrder s isResetAverage orderMeterResetAverage
def execMeterRead (s : State) : Out := runOrder s (ofKind 0x30) orderMeterRead

end Sys2Proof.Machine
end

