-- ==== Sys2Proof/Machine/PageEvents.lean ====
section
/-! DEFINITION. Machine/PageEvents.lean: the events that a page's times and the return reports bring (09). -/

namespace Sys2Proof.Machine

/-- The scheduler serves its lists: RUNNING, with a clock that runs (R155). -/
def State.serving (s : State) : Bool := s.running && s.sys.clock.isSome

/-! ## RETRY_DUE (R155, R159) -/

/-- RETRY_DUE: the head of the retry-due list is taken and an attempt starts. -/
def execRetryDue (s : State) : Out :=
  match s.sched.retryDue with
  | [] => .next s
  | (due, r) :: rest =>
    if s.serving then
      let s1 := elapseUntil s due
      finish (attemptStart (s1.setSched { s1.sched with retryDue := rest }) r true)
    else .next s

/-! ## ACK_DEADLINE (R163, R164) -/

/-- The back-off after a counted attempt, in seconds (R163). -/
def backOff (p : ClassParams) (attempts : Nat) : Nat := min p.retryCap (p.retryBase * 2 ^ (attempts - 1))

/-- A page goes HELD: at the tail of its subscriber's mailbox (R57). -/
def holdPage (s : State) (r : Nat) (p : Page) : State :=
  (s.modifyPage r fun _ => { p with state := .held, retryDue := none, ackDeadline := none }).setMailbox p.subscriber
    (s.mailbox p.subscriber ++ [r])

/-- Hold is enabled for a page's subscriber and its mailbox has a place (R164). -/
def canHold (s : State) (p : Page) : Bool :=
  (match s.pagerOf p with | some q => q.hold | none => false)
    && decide ((s.mailbox p.subscriber).length < Config.mailboxPlaces)

/-- A page whose ack deadline has been taken (R163, R164). -/
def ackMissed (s : State) (r : Nat) (p : Page) : State :=
  let n := p.attempts + 1
  let p' := { p with attempts := n, ackDeadline := none }
  let c := s.params p.cls
  if n < c.attemptLimit then
    retryIn (s.modifyPage r fun _ => { p' with stage := min n 2 }) r (backOff c n)
  else if canHold s p then holdPage s r p'
  else reachOutcome s r p' .undeliverable none

/-- ACK_DEADLINE: the head of the ack-deadline list is taken (R155, R163). -/
def execAckDeadline (s : State) : Out :=
  match s.sched.ackDeadline with
  | [] => .next s
  | (due, r) :: rest =>
    if s.serving then
      let s1 := elapseUntil s due
      let s2 := s1.setSched { s1.sched with ackDeadline := rest }
      match s2.page r with
      | some p => finish (ackMissed s2 r p)
      | none => finish s2
    else .next s

/-! ## EXPIRY (R165) -/

/-- EXPIRY: the head of the expiry list is taken. -/
def execExpiry (s : State) : Out :=
  match s.sched.expiry with
  | [] => .next s
  | (due, r) :: rest =>
    if s.serving then
      let s1 := elapseUntil s due
      let s2 := s1.setSched { s1.sched with expiry := rest }
      match s2.page r with
      | some p => finish (reachOutcome s2 r p .expired none)
      | none => finish s2
    else .next s

/-! ## ACK_TAKEN (R151, R152) -/

/-- An ACK from the pager the page was sent to delivers the page; a REPLY is notified after the settlement (R151). -/
def deliver (s : State) (r : Nat) (p : Page) (choice : Option Nat) (zone : Zone) : State :=
  let s1 := reachOutcome s r p .delivered (some zone)
  match choice with
  | some c => raise s1 (.reply r p.subscriber p.via c zone)
  | none => s1

/-- An ACK (R151, R152). -/
def handleAck (s : State) (air r : Nat) (choice : Option Nat) (zone : Zone) : State :=
  match s.page r with
  | none => raise s (.lateAck air r choice zone)
  | some p =>
    if (s.pagerOf p).map (·.air) = some air then deliver s r p choice zone
    else raise s (.unmatchedAck air r choice zone (Table.get s.dir.airMap air))

/-- ACK_TAKEN: the ACK at the head of the return queue is taken (R150). -/
def execAckTaken (s : State) : Out :=
  match s.returns with
  | .ack air r choice zone :: rest =>
    if s.running then finish (handleAck (s.setReturns rest) air r choice zone) else .next s
  | _ => .next s

/-! ## REGISTER_TAKEN (R153, R57) -/

/-- A held page is released: attempts 0, stage 0, an attempt start (R57). -/
def releasePage (s : State) (r : Nat) : State :=
  attemptStart (s.modifyPage r fun p => { p with attempts := 0, stage := 0 }) r false

/-- A mailbox is released, oldest page first (R57). -/
def releaseMailbox (s : State) (i : Nat) : State := (s.mailbox i).foldl releasePage (s.setMailbox i [])

/-- The last registration of a TWO_WAY subscriber is written (R153). -/
def writeRegistration (s : State) (i : Nat) (u : Subscriber) (q : Pager) (zone : Zone) : State :=
  s.setDir
    { s.dir with subs := Table.set s.dir.subs i { u with body := .pager { q with lastReg := some (zone, s.seconds) } } }

/-- A REGISTER (R153). -/
def handleRegister (s : State) (air : Nat) (zone : Zone) : State :=
  match Table.get s.dir.airMap air with
  | none => raise s (.unmatchedRegister air zone none)
  | some i =>
    match s.sub i with
    | none => raise s (.unmatchedRegister air zone none)
    | some u =>
      match u.body with
      | .pager q =>
        if q.kind = .twoWay then releaseMailbox (writeRegistration s i u q zone) i
        else raise s (.unmatchedRegister air zone (some (i, u.kind)))
      | .group _ => raise s (.unmatchedRegister air zone (some (i, u.kind)))

/-- REGISTER_TAKEN: the REGISTER at the head of the return queue is taken (R150). -/
def execRegisterTaken (s : State) : Out :=
  match s.returns with
  | .register air zone :: rest =>
    if s.running then finish (handleRegister (s.setReturns rest) air zone) else .next s
  | _ => .next s

end Sys2Proof.Machine
end

