-- ==== Sys2Proof/Machine/PageOrders.lean ====
section
/-! DEFINITION. Machine/PageOrders.lean: the meanings of the page orders (R49, R56, R58 to R60). -/

namespace Sys2Proof.Machine

/-! ## PAGE-SUBMIT (R49) -/

/-- The class a PAGE-SUBMIT asks for; 03h is the addressed record's default class (12.2). -/
def submitClass (s : State) (index cls : Nat) : Option PageClass :=
  match cls with
  | 3 => some (match s.sub index with | some u => u.defaultClass | none => .normal)
  | c => classOf c

/-- The DONE answer of PAGE-SUBMIT: first reference, count, references (12.2). -/
def submitAnswer (refs : List Nat) : Result :=
  .done (be 2 (refs.headD 0) ++ be 1 refs.length ++ refs.flatMap (be 2))

/-- PAGE-SUBMIT (R49). -/
def orderPageSubmit (body : List Byte) (s : State) : State × Result :=
  match readFields [2, 1, 1] (body.take 4), readText 240 (body.drop 4) with
  | some [i, c, o], some text =>
    match subscriberIndex i, submitClass s i c, yesNoOf o, text.all printable with
    | some i, some c, some o, true =>
      if !s.running then (s, .notRunning)
      else
        match requestAdmission s ⟨i, c, o, bodyKindOf text, text, .officeLink⟩ with
        | .error e => (s, .refused e)
        | .ok (s', refs) => (s', submitAnswer refs)
    | _, _, _, _ => (s, .badValue)
  | _, _ => (s, .badForm)

/-! ## PAGE-CANCEL (R55, R56) -/

/-- PAGE-CANCEL (R56). -/
def orderPageCancel (body : List Byte) (s : State) : State × Result :=
  match readFields [2] body with
  | some [r] =>
    if r = 0 then (s, .badValue)
    else
      match s.page r with
      | none => (s, .unknown)
      | some p =>
        (reachOutcome s r p .cancelled none, .done (be 4 (p.units .cancelled) ++ be 1 (s.ticketsAtSites r)))
  | _ => (s, .badForm)

/-! ## PAGE-QUERY (R59) -/

/-- An office-clock time with milliseconds, behind a presence byte. -/
def timeField : Option Nat → List Byte
  | some t => 1 :: be 4 (t / 1000) ++ be 2 (t % 1000)
  | none => 0 :: be 4 0 ++ be 2 0

/-- The position of a value in a list, 1 for the head. -/
def positionIn (l : List Nat) (x : Nat) : Option Nat := (l.findIdx? fun y => y == x).map (· + 1)

/-- The zones of a page's tickets not yet finished. -/
def State.ticketZones (s : State) (r : Nat) : ZoneSet :=
  (s.liveTickets.filter fun t => t.2.reference == r && !t.2.orphan).foldl (fun z t => ZoneSet.add z t.1) 0

/-- The record of a page as 3.1 lists it, the body by its length (R59), the attempt fee in the 2 bytes of a tariff amount (log 50). -/
def pageFields (r : Nat) (p : Page) : List Byte :=
  be 2 r ++ be 2 p.subscriber ++ optField 2 p.via ++ be 2 p.account
    ++ [p.origin.code, p.cls.code, p.bodyKind.code] ++ be 1 p.body.length ++ [yesNo p.override, p.state.code]
    ++ be 1 p.attempts ++ be 1 p.stage ++ be 1 p.ticketsOut ++ [yesNo p.aired] ++ be 1 p.transmissions
    ++ be 4 p.estimate ++ be 2 p.attemptFee ++ be 4 p.accepted ++ be 4 p.expiry
    ++ timeField p.retryDue ++ timeField p.ackDeadline

/-- A value that is given in one page state only. -/
def inState (p : Page) (st : PageState) (x : Option Nat) : Option Nat := if p.state = st then x else none

/-- PAGE-QUERY (R59). -/
def orderPageQuery (body : List Byte) (s : State) : State × Result :=
  match readFields [2] body with
  | some [r] =>
    if r = 0 then (s, .badValue)
    else
      match s.page r with
      | none => (s, .unknown)
      | some p =>
        (s, .done
          (pageFields r p ++ optField 2 (inState p .waitTicket (positionIn s.dispatch.ticketWait r))
            ++ optField 1 (inState p .held (positionIn (s.mailbox p.subscriber) r))
            ++ optField 1 (inState p .attempt (some (s.ticketZones r).toNat))))
  | _ => (s, .badForm)

/-! ## CLASS-CONFIG (R60) -/

/-- The nine parameters as an answer carries them. -/
def classFields (p : ClassParams) : List Byte :=
  be 1 p.ackWindow ++ be 2 p.retryBase ++ be 2 p.retryCap ++ be 1 p.attemptLimit ++ be 1 p.lifetime
    ++ be 1 p.oneWayRepeats ++ be 2 p.repeatInterval ++ be 2 p.batchHold ++ [firstListed p.outcomeNotices]

/-- The short form of CLASS-CONFIG (R60). -/
def orderClassConfigRead (body : List Byte) (s : State) : State × Result :=
  match readFields [1] body with
  | some [c] =>
    match classOf c with
    | none => (s, .badValue)
    | some c => (s, .done (classFields (s.params c)))
  | _ => (s, .badForm)

/-- The full form of CLASS-CONFIG (R60). -/
def orderClassConfigWrite (body : List Byte) (s : State) : State × Result :=
  match readFields [1, 1, 2, 2, 1, 1, 1, 2, 2, 1] body with
  | some (c :: fields) =>
    match classOf c with
    | none => (s, .badValue)
    | some c =>
      match classParamsOf c fields with
      | none => (s, .badValue)
      | some p => (s.setSched { s.sched with classes := s.sched.classes.set c p }, .done (classFields p))
  | _ => (s, .badForm)

/-- The order is the short form (log 5). -/
def isClassRead (o : Order) : Bool := o.kind == 0x14#8 && o.body.length == 1

/-- Any other CLASS-CONFIG order (log 5). -/
def isClassWrite (o : Order) : Bool := o.kind == 0x14#8 && !isClassRead o

/-! ## HELD-LIST (R58) -/

/-- A held page's entry: reference, class, accepted time, expiry. -/
def heldFields (s : State) (r : Nat) : List Byte :=
  match s.page r with
  | some p => be 2 r ++ p.cls.code :: (be 4 p.accepted ++ be 4 p.expiry)
  | none => []

/-- HELD-LIST (R58). -/
def orderHeldList (body : List Byte) (s : State) : State × Result :=
  match readFields [2] body with
  | some [i] =>
    match subscriberIndex i with
    | none => (s, .badValue)
    | some i =>
      if (s.sub i).isNone then (s, .unknown)
      else (s, .done (be 1 (s.mailbox i).length ++ (s.mailbox i).flatMap (heldFields s)))
  | _ => (s, .badForm)

/-! ## The commands -/

def execPageSubmit (s : State) : Out := runOrder s (ofKind 0x11) orderPageSubmit
def execPageCancel (s : State) : Out := runOrder s (ofKind 0x12) orderPageCancel
def execPageQuery (s : State) : Out := runOrder s (ofKind 0x13) orderPageQuery
def execClassConfigRead (s : State) : Out := runOrder s isClassRead orderClassConfigRead
def execClassConfigWrite (s : State) : Out := runOrder s isClassWrite orderClassConfigWrite
def execHeldList (s : State) : Out := runOrder s (ofKind 0x15) orderHeldList

end Sys2Proof.Machine
end

