-- ==== Sys2Proof/Machine/PortEvents.lean ====
section
/-! DEFINITION. Machine/PortEvents.lean: the Office Link Port (11): the receiver of the office link (R175), the order queue and the
refusal list (R176, R177), and the output line (R179). -/

namespace Sys2Proof.Machine

/-! ## The receiver (R175, log 15) -/

/-- A frame is rejected with a reason; the port hunts (R175). -/
def rejectFrame (s : State) (reason : RejectReason) : State :=
  raise (s.setPort { s.port with rx := .hunt }) (.frameRejected reason)

/-- An order that has arrived: queued; QUEUE-FULL when the queue is full; rejected when the refusal list is full too (R177). -/
def acceptOrder (s : State) (o : Order) : State :=
  let p := s.port
  if p.orders.length < Config.orderPlaces then s.setPort { p with orders := p.orders ++ [o] }
  else if p.refusals.length < Config.refusalPlaces then
    s.setPort
      { p with
        refusals := p.refusals ++ [⟨o.kind ||| 0x80, o.tag, [0x08]⟩]
        ready := p.ready ++ [.refusal] }
  else raise s (.frameRejected .overflow)

/-- A length a frame of the office link may have (R175). -/
def officeLengthOk (length : Nat) : Bool := decide (2 ≤ length) && decide (length ≤ 258)

/-- A frame that has arrived whole, from its length on: its CRC is checked, and it is an order (R175). -/
def completeOfficeFrame (s : State) (got : List Byte) : State :=
  let content := got.take (got.length - 2)
  if got.drop (got.length - 2) = be 2 (crc16 content).toNat then
    match content.drop 2 with
    | kind :: tag :: body => acceptOrder (s.setPort { s.port with rx := .hunt }) ⟨kind, tag, body⟩
    | _ => rejectFrame s .length
  else rejectFrame s .crc

/-- One byte from the office link: hunted for A5h, or collected; the length is checked at its second byte and the frame at
its last (R175). -/
def officeByte (s : State) (b : Byte) : State :=
  match s.port.rx with
  | .hunt => if b = 0xA5#8 then s.setPort { s.port with rx := .frame [] } else s
  | .frame got =>
    let got := got ++ [b]
    let length := natOf (got.take 2)
    if got.length = 2 ∧ officeLengthOk length = false then rejectFrame s .length
    else if 2 < got.length ∧ got.length = length + 4 then completeOfficeFrame s got
    else s.setPort { s.port with rx := .frame got }

/-- Bytes from the office link. -/
def officeBytes (s : State) (bytes : List Byte) : State := bytes.foldl officeByte s

/-- OFFICE_FRAME_RECEIVED. -/
def execOfficeFrameReceived (bytes : List Byte) (s : State) : Out := finish (officeBytes s bytes)

/-- OFFICE_FRAME_LENGTH: the start byte and two length bytes. -/
def execOfficeFrameLength (high low : Byte) (s : State) : Out := finish (officeBytes s [0xA5, high, low])

/-- OFFICE_FRAME_GAP: more than 50 ms pass after some bytes; a frame that is not complete is rejected (R175). -/
def execOfficeFrameGap (bytes : List Byte) (s : State) : Out :=
  let s1 := elapse (officeBytes s bytes) Config.frameGap
  match s1.port.rx with
  | .frame _ => finish (rejectFrame s1 .gap)
  | .hunt => finish s1

/-! ## The output line (R176, R177, R179) -/

/-- The port once the last byte of a frame has gone: the answer's place is freed, and a RESTART whose answer it was is due
(R176, R183). -/
def Port.frameSent (p : Port) (c : Claim) : Port :=
  let p1 := { p with sending := none }
  match c with
  | .slot =>
    { p1 with
      slot := none
      ready := p.ready.tail
      restart := if p.restart = .arranged then .due else p.restart }
  | .refusal => { p1 with refusals := p.refusals.tail, ready := p.ready.tail }
  | .notice => p1

/-- ANSWER_SENT: the last byte of an answer has been sent. -/
def execAnswerSent (s : State) : Out :=
  match s.port.sending with
  | some ⟨.slot, _⟩ => finish (s.setPort (s.port.frameSent .slot))
  | some ⟨.refusal, _⟩ => finish (s.setPort (s.port.frameSent .refusal))
  | _ => .next s

/-- NOTICE_SENT: the last byte of a notice has been sent. -/
def execNoticeSent (s : State) : Out :=
  match s.port.sending with
  | some ⟨.notice, _⟩ => finish (s.setPort (s.port.frameSent .notice))
  | _ => .next s

/-- LINK_HOLD_CHANGE: low stops the part from beginning a new frame; a frame in progress is finished (R179). -/
def execLinkHoldChange (high : Bool) (s : State) : Out := finish (s.setPort { s.port with linkHold := high })

/-! ## An unknown kind (R176, R187) -/

/-- Kinds 00h and 37h to FFh are no order's. -/
def isUnknownKind (o : Order) : Bool := o.kind == 0x00#8 || decide (0x37 ≤ o.kind.toNat)

/-- An order of an unknown kind is answered BAD-FORM (R176). -/
def orderUnknownKind (_body : List Byte) (s : State) : State × Result := (s, .badForm)

def execUnknownOrderKind (s : State) : Out := runOrder s isUnknownKind orderUnknownKind

end Sys2Proof.Machine
end

