-- ==== Sys2Proof/Machine/ZoneMoves.lean ====
section
/-! DEFINITION. Machine/ZoneMoves.lean: the end and the abandonment of a batch (R111), the withdrawal of a zone (R112), and the
moves between zone states (R97 to R101) with the settling of FWD-POWER-LOW (R140). -/

namespace Sys2Proof.Machine

/-! ## A batch finishes (R111, R122, R168) -/

/-- The batch of a site ends: its tickets return to the pool and are reported in order, an aired batch's slots go to the
meter, and the grant ends. -/
def finishBatch (s : State) (z : Zone) (b : SiteBatch) (aired : Bool) : State :=
  let s1 := s.setZone z { s.zone z with site := none }
  let s2 := reportTickets s1 b.tickets aired
  let s3 := if aired then meterSlots s2 z (slotsOf b.tickets) else s2
  endGrant s3 z

/-- The zone's batch at the site is abandoned: aired if the site had taken it (R111), with the link's part (R135). -/
def abandonBatch (s : State) (z : Zone) : State :=
  match (s.zone z).site with
  | none => s
  | some b => linkAbandon (finishBatch s z b b.onAir) z

/-! ## Withdrawal (R112) -/

/-- A zone that has stopped taking tickets gives back its unsent batch, with its request, and its queues, as not aired. -/
def withdrawZone (s : State) (z : Zone) : State :=
  let r := s.zone z
  let s1 := s.setZone z { r with making := none, emergency := [], priority := [], normal := [] }
  let s2 := match r.making with | some b => if b.closed then withdrawRequest s1 z else s1 | none => s1
  reportTickets s2 r.unsent false

/-! ## Zone states and their notices (R101) -/

/-- The zone's state is written. -/
def setZoneState (s : State) (z : Zone) (st : ZoneState) : State := s.setZone z { s.zone z with state := st }

/-- A ZONE-STATE notice. -/
def zoneNotice (s : State) (z : Zone) (before after : ZoneState) (cause : ZoneCause) : State :=
  raise s (.zoneState z before after cause)

/-- The tickets of a batch reported aired, reported not aired, and orphans (R101). -/
def drainCounts (b : Option SiteBatch) (aired : Bool) : Nat × Nat × Nat :=
  match b with
  | none => (0, 0, 0)
  | some b =>
    let orphans := countWhere b.tickets (·.orphan)
    let reported := b.tickets.length - orphans
    if aired then (reported, 0, orphans) else (0, reported, orphans)

/-- The cause of the ZONE-STATE notice of a drain's end. -/
def DrainResult.cause : DrainResult → ZoneCause
  | .completed => .drainCompleted
  | .timedOut => .drainTimedOut
  | .faulted => .drainFaulted

/-- The notices of a drain's end: ZONE-STATE, then DRAIN-DONE (R101). -/
def drainNotices (s : State) (z : Zone) (result : DrainResult) (counts : Nat × Nat × Nat) : State :=
  raise (zoneNotice s z .draining .outOfService result.cause)
    (.drainDone z result counts.1 counts.2.1 counts.2.2)

/-- A drain is over: OUT_OF_SERVICE, drain timer stopped (R99, R100). -/
def stopDrain (s : State) (z : Zone) : State :=
  s.setZone z { s.zone z with state := .outOfService, drainTimer := none }

/-- A drain ended by its timeout or by a fault: the batch at the site is abandoned (R99, R100). -/
def breakDrain (s : State) (z : Zone) (result : DrainResult) : State :=
  let b := (s.zone z).site
  let aired := match b with | some b => b.onAir | none => false
  drainNotices (abandonBatch (stopDrain s z) z) z result (drainCounts b aired)

/-- A drain that has nothing left at the site ends (R98, R99). -/
def completeDrain (s : State) (z : Zone) (counts : Nat × Nat × Nat) : State :=
  drainNotices (stopDrain s z) z .completed counts

/-- The end of a batch at carrier-off; in DRAINING it ends the drain (R99, R111). -/
def endBatch (s : State) (z : Zone) : State :=
  match (s.zone z).site with
  | none => s
  | some b =>
    let s1 := finishBatch s z b true
    if (s1.zone z).state = .draining then completeDrain s1 z (drainCounts (some b) true) else s1

/-! ## SETTLING (R97, R140) -/

/-- The settle timer starts while the part is in RUNNING (R97, R140). -/
def startSettleTimer (s : State) (z : Zone) : State :=
  if s.running then
    s.setLink z { s.link z with settle := some (s.sys.base + (s.zone z).settleWindow * 1000) }
  else s

/-- What entering SETTLING does at the link: the settle timer starts, and FWD-POWER-LOW stops being present (R140). -/
def enterSettling (s : State) (z : Zone) : State := setPresent (startSettleTimer s z) z .fwdPowerLow false

/-- The last reported FWD-POWER-LOW (R140). -/
def LinkRec.lastFwd (l : LinkRec) : Bool := match l.last with | some r => r.fwdPowerLow | none => false

/-- What leaving SETTLING does at the link: the settle timer stops, and FWD-POWER-LOW takes the last reported value (R140). -/
def leaveSettling (s : State) (z : Zone) : State :=
  setPresent (s.setLink z { s.link z with settle := none }) z .fwdPowerLow (s.link z).lastFwd

/-! ## Take-out events (R96, R99, R100) -/

/-- A zone in service is faulted: what is unsent is withdrawn, what is at the site is abandoned (R100). -/
def faultZone (s : State) (z : Zone) (before : ZoneState) : State :=
  let s1 := abandonBatch (withdrawZone (setZoneState s z .faulted) z) z
  let s2 := zoneNotice s1 z before .faulted .takeOut
  if before = .settling then leaveSettling s2 z else s2

/-- Take-out present (R100). -/
def takeOutPresent (s : State) (z : Zone) : State :=
  match (s.zone z).state with
  | .inService => faultZone s z .inService
  | .settling => faultZone s z .settling
  | .draining => breakDrain s z .faulted
  | _ => s

/-- Take-out clear (R99). -/
def takeOutClear (s : State) (z : Zone) : State :=
  match (s.zone z).state with
  | .faulted => enterSettling (zoneNotice (setZoneState s z .settling) z .faulted .settling .takeOutClear) z
  | _ => s

/-- The take-out computation after changes of present states or actions, against what it was before them (R96, R139). -/
def evalTakeOut (s : State) (z : Zone) (before : Bool) : State :=
  let after := (s.link z).takeOutPresent
  if after && !before then takeOutPresent s z
  else if before && !after then takeOutClear s z
  else s

/-- A fault kind becomes present, with the take-out event it brings (R139). -/
def becomePresent (s : State) (z : Zone) (k : FaultKind) : State :=
  evalTakeOut (setPresent s z k true) z (s.link z).takeOutPresent

/-- LINK_LOST becomes present, with the take-out event it brings (R136, R139). -/
def linkLost (s : State) (z : Zone) : State := evalTakeOut (loseLink s z) z (s.link z).takeOutPresent

/-- SETTLING is left for another state than FAULTED: FWD-POWER-LOW is read afresh and acts like any condition (R140). -/
def settleOut (s : State) (z : Zone) : State :=
  evalTakeOut (leaveSettling s z) z (s.link z).takeOutPresent

/-- A zone leaves service by order: DRAINING, its unsent tickets withdrawn, the drain timer started; with nothing at the
site the drain ends at once (R98). -/
def drainZone (s : State) (z : Zone) (before : ZoneState) : State :=
  let r := s.zone z
  let s1 :=
    s.setZone z { r with state := .draining, drainTimer := some (s.sys.base + r.drainTimeout * 1000) }
  let s2 := zoneNotice (withdrawZone s1 z) z before .draining .order
  let s3 := if (s2.zone z).site.isNone then completeDrain s2 z (0, 0, 0) else s2
  if before = .settling then settleOut s3 z else s3

end Sys2Proof.Machine
end

