-- ==== Sys2Proof/Machine/SiteEvents.lean ====
section
/-! DEFINITION. Machine/SiteEvents.lean: what a site sends and what the timers of a link bring (08): the receiver of site frames,
the seven stages of a STATUS (R129), POLL and BATCH on the line (R130), and the link timers. -/

namespace Sys2Proof.Machine

/-! ## A STATUS frame's fields (12.3, R129, R187) -/

/-- The fields of a STATUS. -/
structure Status where
  carrier : Bool
  tt : Bool
  dt : Bool
  resyncAck : Bool
  fwdPowerLow : Bool
  reflectedHigh : Bool
  siteAlarm : Bool
  rt : Bool
  reports : List Report
  deriving DecidableEq, Repr

/-- A receiving zone, an air address and a page reference in range (R129). -/
def readReport (bytes : List Byte) : Option Report :=
  match readFields [1, 3, 2, 1, 1, 1] bytes with
  | some [1, air, reference, kind, choice, zone] =>
    match finOf 8 zone with
    | none => none
    | some z =>
      if 4194303 < air ∨ reference = 0 then none
      else
        match kind with
        | 0 => some (.ack air reference none z)
        | 1 => if 1 ≤ choice ∧ choice ≤ 4 then some (.ack air reference (some choice) z) else none
        | _ => none
  | some [2, air, _, _, _, zone] =>
    match finOf 8 zone with
    | none => none
    | some z => if 4194303 < air then none else some (.register air z)
  | _ => none

/-- A number of reports of nine bytes each, with nothing behind them. -/
def readReports : Nat → List Byte → Option (List Report)
  | 0, [] => some []
  | 0, _ :: _ => none
  | k + 1, bytes =>
    match readReport (bytes.take 9) with
    | none => none
    | some r => (readReports k (bytes.drop 9)).map (r :: ·)

/-- The body of a STATUS: a flags byte, RT, the report count and the reports; nothing where a field is out of range or the
length is not the one the count calls for (R129, R186, R187). -/
def readStatus : List Byte → Option Status
  | flags :: rt :: count :: reports =>
    if 1 < rt.toNat ∨ 4 < count.toNat then none
    else
      (readReports count.toNat reports).map fun rs =>
        ⟨flags.getLsbD 0, flags.getLsbD 1, flags.getLsbD 2, flags.getLsbD 3, flags.getLsbD 4, flags.getLsbD 5,
          flags.getLsbD 6, rt.getLsbD 0, rs⟩
  | _ => none

/-! ## The stages of a STATUS (R129) -/

/-- Stage 1: the silence timer restarts (R136). -/
def stageSilence (s : State) (z : Zone) : State :=
  s.setLink z { s.link z with silence := some (windowEnds s z) }

/-- The completion of a resync: no longer pending, its timer stopped, LINK_LOST not present, a withheld frame sent (R136). -/
def completeResync (s : State) (z : Zone) : State :=
  let s1 := setPresent (s.setLink z { s.link z with resyncPending := false, resync := none }) z .linkLost false
  match (s1.link z).batch with
  | .withheld entries => sendBatch s1 z entries
  | _ => s1

/-- Stage 2: the resync test, made while resync is pending (R136): passed by a site that answers a POLL with RESYNC as R138 says. -/
def stageResync (s : State) (z : Zone) (x : Status) : State :=
  let l := s.link z
  if l.resyncPending && x.resyncAck && x.tt == l.st && x.dt == l.st then
    evalTakeOut (completeResync s z) z l.takeOutPresent
  else s

/-- The toggle of the batch at the site. -/
def State.batchToggle (s : State) (z : Zone) : Option Bool :=
  match (s.zone z).site with
  | some b => b.toggle
  | none => none

/-- The slots of the batch at the site. -/
def State.siteSlots (s : State) (z : Zone) : Nat := slotsOf (s.zone z).atSite

/-- A take: the take timeout stops, the batch is ON_AIR, the carrier timer runs in batch mode (R132, R134). -/
def takeBatch (s : State) (z : Zone) : State :=
  let r := s.zone z
  let s1 := s.setZone z { r with site := r.site.map fun b => { b with onAir := true } }
  s1.setLink z
    { s1.link z with
      batch := .onAir
      take := none
      carrier := some (true, s.sys.base + s.siteSlots z * Config.slotTime + Config.carrierAllowance) }

/-- An end: the carrier timer stops, the link holds no batch, the batch ends (R132, R111). -/
def endOfCarrier (s : State) (z : Zone) : State :=
  endBatch (s.setLink z { s.link z with batch := .none, carrier := none }) z

/-- The end test, for an ON_AIR batch (R132). -/
def testEnd (s : State) (z : Zone) (x : Status) : State :=
  if s.batchToggle z = some x.dt ∧ x.carrier = false then endOfCarrier s z else s

/-- Stage 3: take and end, with resync not pending (R132). Toggles that no site that keeps to R138 shows move no batch, and with no
batch at the link begin a resync. -/
def stageToggles (s : State) (z : Zone) (x : Status) : State :=
  let l := s.link z
  if l.resyncPending then s
  else
    match l.batch with
    | .sent => if s.batchToggle z = some x.tt then testEnd (takeBatch s z) z x else s
    | .onAir => testEnd s z x
    | .none => if x.tt == l.st && x.dt == l.st then s else beginResync s z
    | .withheld _ => s

/-- The carrier timer without an ON_AIR batch (R134). -/
def noBatchCarrier (s : State) (z : Zone) (on : Bool) : State :=
  let l := s.link z
  if on then
    if l.carrier.isNone && !(l.fault .carrierStuck).present then
      s.setLink z { l with carrier := some (false, s.sys.base + Config.carrierAllowance) }
    else s
  else s.setLink z { l with carrier := none }

/-- Stage 4: the carrier value goes to the carrier timer; carrier OFF ends CARRIER_STUCK (R134). -/
def stageCarrier (s : State) (z : Zone) (x : Status) : State :=
  let s1 := if (s.link z).batch = .onAir then s else noBatchCarrier s z x.carrier
  if x.carrier then s1
  else evalTakeOut (setPresent s1 z .carrierStuck false) z (s1.link z).takeOutPresent

/-- Stage 5: the site conditions take the values reported, FWD-POWER-LOW disregarded in SETTLING (R139, R140), in the order of
the table of 8.5 (log 43). -/
def stageConditions (s : State) (z : Zone) (x : Status) : State :=
  let fwd := x.fwdPowerLow && (s.zone z).state != .settling
  evalTakeOut
    (setPresent (setPresent (setPresent s z .fwdPowerLow fwd) z .reflectedHigh x.reflectedHigh) z .siteAlarm x.siteAlarm)
    z (s.link z).takeOutPresent

/-- Stage 6: the return reports are offered to the return queue (R137). -/
def stageReports (s : State) (z : Zone) (x : Status) : State :=
  let l := s.link z
  if l.ra = some x.rt then s
  else if s.returns.length + x.reports.length ≤ Config.reportPlaces then
    (s.setReturns (s.returns ++ x.reports)).setLink z { l with ra := some x.rt }
  else s

/-- Stage 7: the last reported values are written. -/
def stageLast (s : State) (z : Zone) (x : Status) : State :=
  s.setLink z
    { s.link z with last := some ⟨x.carrier, x.tt, x.dt, x.fwdPowerLow, x.reflectedHigh, x.siteAlarm⟩ }

/-- A valid STATUS, in its seven stages (R129). -/
def handleStatus (s : State) (z : Zone) (x : Status) : State :=
  let s1 := stageSilence s z
  let s2 := stageResync s1 z x
  let s3 := stageToggles s2 z x
  let s4 := stageCarrier s3 z x
  let s5 := stageConditions s4 z x
  let s6 := stageReports s5 z x
  stageLast s6 z x

/-! ## The receiver of site frames (R129, log 16) -/

/-- A frame is discarded and counted; the receiver hunts (R129). -/
def discardSiteFrame (s : State) (z : Zone) : State :=
  let l := s.link z
  s.setLink z { l with rx := .hunt, discarded := min 65535 (l.discarded + 1) }

/-- The kind and length of a frame are those of a STATUS. -/
def statusHeader (got : List Byte) : Bool :=
  match got with
  | high :: low :: kind :: _ => kind == 0x03#8 && [4, 13, 22, 31, 40].contains (natOf [high, low])
  | _ => true

/-- The bytes a frame has after its start byte: length, kind and body, CRC. -/
def siteFrameSize (got : List Byte) : Nat := natOf (got.take 2) + 4

/-- A frame that has arrived whole is taken, or discarded for its CRC or a field (R129). -/
def acceptSiteFrame (s : State) (z : Zone) (got : List Byte) : State :=
  let content := got.take (got.length - 2)
  if got.drop (got.length - 2) = be 2 (crc16 content).toNat then
    match readStatus (content.drop 3) with
    | some x => handleStatus (s.setLink z { s.link z with rx := .hunt }) z x
    | none => discardSiteFrame s z
  else discardSiteFrame s z

/-- One byte from a site. -/
def siteByte (s : State) (z : Zone) (b : Byte) : State :=
  match (s.link z).rx with
  | .hunt => if b = 0xC3#8 then s.setLink z { s.link z with rx := .frame [] } else s
  | .frame got =>
    let got := got ++ [b]
    if !statusHeader got then discardSiteFrame s z
    else if 3 ≤ got.length ∧ got.length = siteFrameSize got then acceptSiteFrame s z got
    else s.setLink z { s.link z with rx := .frame got }

/-- Bytes from a site, any at all, whether or not it keeps to R138; in STANDBY every one is discarded (R129). -/
def siteBytes (s : State) (z : Zone) (bytes : List Byte) : State :=
  if s.running then bytes.foldl (fun s b => siteByte s z b) s else s

/-! ## The commands -/

/-- STATUS_RECEIVED. -/
def execStatusReceived (z : Zone) (bytes : List Byte) (s : State) : Out := finish (siteBytes s z bytes)

/-- More than 50 ms pass after some bytes: a frame that is not complete is discarded (R129). -/
def execSiteFrameGap (z : Zone) (bytes : List Byte) (s : State) : Out :=
  let s1 := elapse (siteBytes s z bytes) Config.frameGap
  match (s1.link z).rx with
  | .frame _ => finish (discardSiteFrame s1 z)
  | .hunt => finish s1

/-- POLL_SEND: the POLL of the interval's end (R130, log 17). -/
def execPollSend (z : Zone) (s : State) : Out :=
  match (s.link z).pollDue with
  | none => .next s
  | some due =>
    let s1 := elapseTo s due
    finish (s1.setLink z ((s1.link z).duePoll s1.sys.base))

/-- The line of a link once a BATCH frame's last byte has gone: a waiting POLL goes, then a waiting BATCH frame; else the take
timeout starts for a batch whose frame it was (R130, R131, log 18, log 33). -/
def LinkRec.frameSent (l : LinkRec) (base : Nat) : LinkRec :=
  let l1 := { l with sendingBatch := false }
  let l2 := if l1.pollWaiting then l1.poll base else l1
  match l2.nextFrame with
  | some f => { l2 with sendingBatch := true, tx := f, nextFrame := none }
  | none => if l2.batch = .sent then { l2 with take := some (base + Config.takeTimeout) } else l2

/-- BATCH_FRAME_SENT. -/
def execBatchFrameSent (z : Zone) (s : State) : Out :=
  if (s.link z).sendingBatch then finish (s.setLink z ((s.link z).frameSent s.sys.base)) else .next s

/-- TAKE_TIMEOUT (R133); it meets a site that does not take a batch as R138 says. -/
def execTakeTimeout (z : Zone) (s : State) : Out :=
  match (s.link z).take with
  | none => .next s
  | some ends =>
    let s1 := elapseTo s ends
    finish (linkLost (s1.setLink z { s1.link z with take := none }) z)

/-- CARRIER_TIMEOUT (R134); it meets a site that keys and does not unkey (R138). -/
def execCarrierTimeout (z : Zone) (s : State) : Out :=
  match (s.link z).carrier with
  | none => .next s
  | some (_, ends) =>
    let s1 := elapseTo s ends
    finish (becomePresent (s1.setLink z { s1.link z with carrier := none }) z .carrierStuck)

/-- SILENCE_TIMEOUT (R136); it meets a site that does not send STATUS as R138 says. -/
def execSilenceTimeout (z : Zone) (s : State) : Out :=
  match (s.link z).silence with
  | none => .next s
  | some ends => finish (linkLost (elapseTo s ends) z)

/-- RESYNC_TIMEOUT (R136); it meets a site that does not answer RESYNC as R138 says. -/
def execResyncTimeout (z : Zone) (s : State) : Out :=
  match (s.link z).resync with
  | none => .next s
  | some ends =>
    let s1 := elapseTo s ends
    if (s1.link z).resyncPending then finish (linkLost s1 z)
    else finish (s1.setLink z { s1.link z with resync := none })

end Sys2Proof.Machine
end

