-- ==== Sys2Proof/Machine/SiteOrders.lean ====
section
/-! DEFINITION. Machine/SiteOrders.lean: the meanings of the orders of the Site Link Controller (R143 to R148). -/

namespace Sys2Proof.Machine

/-- LINK-CONFIG (R143). -/
def orderLinkConfig (body : List Byte) (s : State) : State × Result :=
  match readFields [1, 1] body with
  | some [z, window] =>
    match finOf 8 z, within 1 10 window with
    | some z, some window => (s.setLink z { s.link z with window := window }, .done [])
    | _, _ => (s, .badValue)
  | _ => (s, .badForm)

/-- A site condition, the kinds FAULT-ACTION accepts (R144), under the codes 02h to 04h they have among the five kinds of 8.5 (the
model's choice, log 59). -/
def siteConditionOf (x : Nat) : Option FaultKind :=
  match faultKindOf x with
  | some .linkLost => none
  | some .carrierStuck => none
  | k => k

/-- An action is replaced, and the take-out computation made at once (R144). -/
def setAction (s : State) (z : Zone) (k : FaultKind) (takeOut : Bool) : State :=
  let l := s.link z
  evalTakeOut (s.setLink z (l.setFault k { l.fault k with takeOut := takeOut })) z l.takeOutPresent

/-- FAULT-ACTION (R144): REPORT_ONLY 00h, TAKE_OUT 01h. -/
def orderFaultAction (body : List Byte) (s : State) : State × Result :=
  match readFields [1, 1, 1] body with
  | some [z, k, a] =>
    match finOf 8 z, siteConditionOf k, yesNoOf a with
    | some z, some k, some takeOut => (setAction s z k takeOut, .done [])
    | _, _, _ => (s, .badValue)
  | _ => (s, .badForm)

/-- FAULT-MASK (R145): OPEN 00h, MASKED 01h. -/
def orderFaultMask (body : List Byte) (s : State) : State × Result :=
  match readFields [1, 1, 1] body with
  | some [z, k, m] =>
    match finOf 8 z, faultKindOf k, yesNoOf m with
    | some z, some k, some masked =>
      (s.setLink z ((s.link z).setFault k { (s.link z).fault k with masked := masked }), .done [])
    | _, _, _ => (s, .badValue)
  | _ => (s, .badForm)

/-- A latched flag that is set and whose condition is not present is cleared, with its notice (R146, R141). -/
def clearLatch (s : State) (z : Zone) (k : FaultKind) : State :=
  let f := (s.link z).fault k
  if f.latched && !f.present then
    let s1 := s.setLink z ((s.link z).setFault k { f with latched := false })
    if f.masked then s1 else raise s1 (.faultChange z k false false)
  else s

/-- The latched state and the present state of a kind. -/
def latchFields (l : LinkRec) (k : FaultKind) : List Byte := [firstListed (l.fault k).latched, yesNo (l.fault k).present]

/-- FAULT-CLEAR (R146): one kind, or ALL 05h. -/
def orderFaultClear (body : List Byte) (s : State) : State × Result :=
  match readFields [1, 1] body with
  | some [z, k] =>
    match finOf 8 z, kindsOrAll k with
    | some z, some kinds =>
      let s1 := evalAlarms (kinds.foldl (fun s k => clearLatch s z k) s)
      (s1, .done (be 1 kinds.length ++ kinds.flatMap (latchFields (s1.link z))))
    | _, _ => (s, .badValue)
  | _ => (s, .badForm)

/-- ALARM-MAP (R147): output A 00h, B 01h; the map's bits 0 to 5, its other bits being reserved (R187, R188). -/
def orderAlarmMap (body : List Byte) (s : State) : State × Result :=
  match readFields [1, 1] body with
  | some [o, m] =>
    match o with
    | 0 => (evalAlarms (s.setSites { s.sites with alarmA := { s.sites.alarmA with map := BitVec.ofNat 6 m } }), .done [])
    | 1 => (evalAlarms (s.setSites { s.sites with alarmB := { s.sites.alarmB with map := BitVec.ofNat 6 m } }), .done [])
    | _ => (s, .badValue)
  | _ => (s, .badForm)

/-! ## FAULT-QUERY -/

/-- A fault kind: present state, latched flag, action, mask (R148). -/
def faultFields (f : FaultRec) : List Byte := [yesNo f.present, firstListed f.latched, yesNo f.takeOut, yesNo f.masked]

/-- The last reported values, all six behind one presence byte (the model's choice, log 55): carrier (ON 00h), TT, DT, the three
conditions. -/
def lastFields : Option LastReport → List Byte
  | some r =>
    [1, firstListed r.carrier, yesNo r.tt, yesNo r.dt, yesNo r.fwdPowerLow, yesNo r.reflectedHigh, yesNo r.siteAlarm]
  | none => [0, 0, 0, 0, 0, 0, 0]

/-- RA: 0, 1, or NONE 02h (R188). -/
def raCode : Option Bool → Byte
  | some b => yesNo b
  | none => 2

/-- The batch at the link, none included as the first of the values of R128's table, in its order (the model's choice, log 58). -/
def LinkBatch.code : LinkBatch → Byte
  | .none => 0
  | .withheld _ => 1
  | .sent => 2
  | .onAir => 3

/-- The time left on a timer behind a presence byte. -/
def timerField (s : State) (t : Option Nat) : List Byte := optField 2 (t.map fun ends => ends - s.sys.base)

/-- FAULT-QUERY (R148), each alarm output with its map behind it (log 51). -/
def orderFaultQuery (body : List Byte) (s : State) : State × Result :=
  match readFields [1] body with
  | some [z] =>
    match finOf 8 z with
    | none => (s, .badValue)
    | some z =>
      let l := s.link z
      (s, .done
        (allFaultKinds.flatMap (fun k => faultFields (l.fault k)) ++ lastFields l.last
          ++ [yesNo l.st, raCode l.ra, yesNo l.resyncPending, l.batch.code]
          ++ optField 1 ((s.zone z).site.map (·.number.toNat))
          ++ timerField s l.silence ++ timerField s l.resync ++ timerField s l.take ++ timerField s (l.carrier.map (·.2))
          ++ timerField s l.settle ++ be 2 l.discarded
          ++ [yesNo s.sites.alarmA.asserted, s.sites.alarmA.map.zeroExtend 8, yesNo s.sites.alarmB.asserted,
              s.sites.alarmB.map.zeroExtend 8]))
  | _ => (s, .badForm)

def execLinkConfig (s : State) : Out := runOrder s (ofKind 0x28) orderLinkConfig
def execFaultAction (s : State) : Out := runOrder s (ofKind 0x29) orderFaultAction
def execFaultMask (s : State) : Out := runOrder s (ofKind 0x2A) orderFaultMask
def execFaultClear (s : State) : Out := runOrder s (ofKind 0x2B) orderFaultClear
def execAlarmMap (s : State) : Out := runOrder s (ofKind 0x2C) orderAlarmMap
def execFaultQuery (s : State) : Out := runOrder s (ofKind 0x2D) orderFaultQuery

end Sys2Proof.Machine
end

