-- ==== Sys2Proof/Machine/Starts.lean ====
section
/-! DEFINITION. Machine/Starts.lean: the starts of the part and what each block makes of them (R42, R62, R116, R127, R149, R166, R174,
R183, R184), START (R182), STORE-ERASE (R185), and the remaining orders of the port (R180, R181). -/

namespace Sys2Proof.Machine

/-! ## What a start makes of each block when the store is valid -/

/-- A line keeps its settings; everything else is as after a start (R42). -/
def Line.afterStart (l : Line) : Line :=
  { Line.initial with cls := l.cls, rate := l.rate, entryTimeout := l.entryTimeout, idleTimeout := l.idleTimeout }

/-- The intake keeps its phrases and settings; the wait list is empty (R42). -/
def Intake.afterStart (x : Intake) : Intake :=
  { x with lines := bankMap x.lines fun _ l => l.afterStart, waitList := [], announcements := 0 }

/-- A page in ATTEMPT or WAIT_TICKET goes to RETRY_WAIT due at the start; the others keep their states (R62). -/
def Page.afterStart (now : Nat) (p : Page) : Page :=
  match p.state with
  | .attempt => { p with state := .retryWait, retryDue := some now, ackDeadline := none, ticketsOut := 0, aired := false }
  | .waitTicket => { p with state := .retryWait, retryDue := some now, ackDeadline := none, ticketsOut := 0, aired := false }
  | _ => p

/-- The pages after a start. -/
def PageStore.afterStart (x : PageStore) (now : Nat) : PageStore :=
  { x with pages := x.pages.map fun e => (e.1, e.2.afterStart now) }

/-- A list rebuilt from the pages, equal times in ascending order of reference (R166). -/
def rebuildList (pages : Table Page) (time : Page → Option Nat) : List (Nat × Nat) :=
  pages.foldl (fun l e => match time e.2 with | some t => timeInsert l t e.1 | none => l) []

/-- The scheduler's lists rebuilt from the pages; the class parameters kept (R166). -/
def Scheduler.afterStart (x : Scheduler) (pages : Table Page) : Scheduler :=
  { x with
    retryDue := rebuildList pages fun p => if p.state = .retryWait then p.retryDue else none
    ackDeadline := rebuildList pages fun p => if p.state = .awaitAck then p.ackDeadline else none
    expiry := rebuildList pages fun p => some (p.expiry * 1000) }

/-- A zone's state after a start (R116). -/
def ZoneState.afterStart : ZoneState → ZoneState
  | .inService => .settling
  | .settling => .settling
  | .faulted => .settling
  | .draining => .outOfService
  | .outOfService => .outOfService

/-- A zone keeps its settings and a converted state; it holds no ticket and no batch (R116). -/
def ZoneRec.afterStart (z : ZoneRec) : ZoneRec :=
  { ZoneRec.initial with
    state := z.state.afterStart, homeGroup := z.homeGroup, drainTimeout := z.drainTimeout, settleWindow := z.settleWindow }

/-- The Dispatch Unit after a start (R116). -/
def DispatchUnit.afterStart (x : DispatchUnit) : DispatchUnit :=
  { zones := bankMap x.zones fun _ z => z.afterStart, ticketWait := [] }

/-- A group keeps its guard time (R127). -/
def GroupRec.afterStart (g : GroupRec) : GroupRec := { GroupRec.initial with guardTime := g.guardTime }

/-- A link keeps its window, actions, masks and latched flags; no condition is present (R149).
ST is 0 after every start (R138). -/
def LinkRec.afterStart (l : LinkRec) : LinkRec :=
  { LinkRec.initial with window := l.window, faults := bankMap l.faults fun _ f => { f with present := false } }

/-- The links after a start; the alarm maps are kept (R149). -/
def Sites.afterStart (x : Sites) : Sites := { x with links := bankMap x.links fun _ l => l.afterStart }

/-- A zone's meter keeps its configuration (R174). -/
def ZoneMeter.afterStart (m : ZoneMeter) : ZoneMeter :=
  { ZoneMeter.initial with threshold := m.threshold, hysteresis := m.hysteresis }

/-- The meter after a start (R174). -/
def Meter.afterStart (m : Meter) : Meter :=
  { m with zones := bankMap m.zones fun _ x => x.afterStart, timer := none, owing := [] }

/-- The port after a start: STANDBY, every queue empty (R183); LINK-HOLD is an input and keeps its level, and a port that has begun
no frame since its power-up still has none begun (R184). -/
def Port.afterStart (p : Port) : Port :=
  { mode := .standby, rx := .hunt, orders := [], slot := none, refusals := [], ready := [], sending := none
    notices := [], lost := 0, linkHold := p.linkHold, restart := .none, silent := p.silent }

/-- Every block after a start with a valid store; the JOURNAL-HIGH condition is cleared (R89, R183). -/
def convert (s : State) : State :=
  let store := s.store.afterStart s.now
  { s with
    port := s.port.afterStart
    intake := s.intake.afterStart
    store := store
    journal := { s.journal with high := false }
    sched := s.sched.afterStart store.pages
    dispatch := s.dispatch.afterStart
    arbiter := bankMap s.arbiter fun _ g => g.afterStart
    sites := s.sites.afterStart
    returns := []
    meter := s.meter.afterStart }

/-- The notices of a start: STARTED, and JOURNAL-HIGH if the condition is set; the alarm outputs are evaluated (R183, R94). -/
def announceStart (s : State) (cause : StartCause) (store : StoreState) : State :=
  evalAlarms (evalJournalHigh (raise s (.started cause store s.sys.clock.isSome)))

/-- A start with a valid store (R183). -/
def startPart (s : State) (cause : StartCause) : State :=
  announceStart (convert (s.setSys { s.sys with lastCause := cause })) cause .valid

/-! ## RESTART_START, RESET_PIN -/

/-- RESTART_START: the start that follows the sending of a RESTART answer (R183). -/
def execRestartStart (s : State) : Out :=
  if s.port.restart = .due then finish (startPart s .restart) else .next s

/-- RESET_PIN: the RESET pin starts the part at once (R183). -/
def execResetPin (s : State) : Out := finish (startPart s .reset)

/-! ## Erase, power -/

/-- A zone's meter with its configuration at the defaults (R185). -/
def ZoneMeter.erased (m : ZoneMeter) : ZoneMeter :=
  { m with threshold := ZoneMeter.initial.threshold, hysteresis := ZoneMeter.initial.hysteresis }

/-- The record store emptied (R185): every table empty, every setting at its default. What zones and groups hold besides
their settings is as every start leaves it, since the erase is taken in STANDBY (R116, R127). -/
def eraseStore (s : State) : State :=
  evalAlarms
    { s with
      intake :=
        { s.intake with
          lines :=
            bankMap s.intake.lines fun _ l =>
              { l with
                cls := Line.initial.cls, rate := Line.initial.rate, entryTimeout := Line.initial.entryTimeout
                idleTimeout := Line.initial.idleTimeout }
          phrases := [] }
      dir := Directory.initial
      store := { pages := [], refCounter := 1, mailboxes := [] }
      money := { accounts := [], plans := [] }
      journal := Journal.initial
      sched := { retryDue := [], ackDeadline := [], expiry := [], classes := ClassTable.standard }
      dispatch := { zones := Vector.replicate 8 ZoneRec.initial, ticketWait := [] }
      arbiter := Vector.replicate 4 GroupRec.initial
      sites :=
        { links :=
            bankMap s.sites.links fun _ l =>
              { l with window := LinkRec.initial.window, faults := FaultRec.initialAll }
          alarmA := { s.sites.alarmA with map := 0 }
          alarmB := { s.sites.alarmB with map := 0 } }
      meter :=
        { s.meter with
          enabled := Meter.initial.enabled, interval := Meter.initial.interval, weight := Meter.initial.weight
          zones := bankMap s.meter.zones fun _ m => m.erased } }

/-- STORE-ERASE (R185). -/
def orderStoreErase (body : List Byte) (s : State) : State × Result :=
  match body with
  | [] => if s.running then (s, .state) else (eraseStore s, .done [])
  | _ => (s, .badForm)

/-- No frame has been begun since a power-up: STARTED will be the first (R184). -/
def silenced (s : State) : State := s.setPort { s.port with silent := true }

/-- A power-up that finds the store valid (R184). -/
def powerUpValid (s : State) (rate : OfficeRate) : State :=
  startPart ((silenced s).setSys { s.sys with rate := rate, storeFound := .valid }) .powerUp

/-- A power-up that finds the store empty (R184). -/
def powerUpEmpty (s : State) (rate : OfficeRate) : State :=
  let s1 := eraseStore (convert (silenced s))
  announceStart
    (s1.setSys
      { s1.sys with clock := none, retention := true, rate := rate, storeFound := .empty, lastCause := .powerUp })
    .powerUp .empty

/-- POWER_UP after a time without power (R184, log 32). -/
def execPowerUp (rate : OfficeRate) (without : Nat) (s : State) : Out :=
  let s1 := elapse s without
  if s1.sys.retention then finish (powerUpValid s1 rate) else finish (powerUpEmpty s1 rate)

/-- BACKUP_VOLTAGE_LOW: the supervisor clears the retention flag (R184). -/
def execBackupVoltageLow (s : State) : Out := finish (s.setSys { s.sys with retention := false })

/-! ## IDENTIFY, CLOCK-SET, CLOCK-READ -/

/-- The bit rate of the office link (R184). -/
def rateBits : OfficeRate → Nat
  | .r115200 => 115200
  | .r230400 => 230400
  | .r460800 => 460800
  | .r921600 => 921600

/-- The part name KESTROP 816 as text (R181). -/
def partName : List Byte := [0x4B, 0x45, 0x53, 0x54, 0x52, 0x4F, 0x50, 0x20, 0x38, 0x31, 0x36]

/-- IDENTIFY (R181), the link rate as a number of bit/s (log 40) and the store state by STARTED's codes (log 46). -/
def orderIdentify (body : List Byte) (s : State) : State × Result :=
  match body with
  | [] =>
    (s, .done
      (be 1 partName.length ++ partName ++ [0x01] ++ be 4 (rateBits s.sys.rate)
        ++ [s.port.mode.code, s.sys.storeFound.code, yesNo s.sys.clock.isSome, s.sys.lastCause.code]))
  | _ => (s, .badForm)

/-- CLOCK-SET (R180). -/
def orderClockSet (body : List Byte) (s : State) : State × Result :=
  match readFields [4] body with
  | some [seconds] => (s.setSys { s.sys with clock := some (seconds * 1000) }, .done [])
  | _ => (s, .badForm)

/-- The clock's time: seconds and milliseconds behind a presence byte (R188). -/
def clockField : Option Nat → List Byte
  | some t => 1 :: be 4 (t / 1000) ++ be 2 (t % 1000)
  | none => 0 :: be 4 0 ++ be 2 0

/-- CLOCK-READ (R180). -/
def orderClockRead (body : List Byte) (s : State) : State × Result :=
  match body with
  | [] => (s, .done (yesNo s.sys.clock.isSome :: clockField s.sys.clock))
  | _ => (s, .badForm)

/-! ## START, RESTART -/

/-- A link at START: silence and resync timers with the link window, its first POLL sent (R182, R149), and the settle timer of a
zone in SETTLING (R97, R140). -/
def LinkRec.run (l : LinkRec) (base : Nat) (zone : ZoneRec) : LinkRec :=
  LinkRec.duePoll
    { l with
      silence := some (base + l.window * 1000)
      resync := some (base + l.window * 1000)
      settle := if zone.state = .settling then some (base + zone.settleWindow * 1000) else l.settle }
    base

/-- The part enters RUNNING (R182). -/
def enterRunning (s : State) : State :=
  let base := s.sys.base
  { s with
    port := { s.port with mode := .running }
    intake := { s.intake with lines := bankMap s.intake.lines fun _ l => { l with hold := false } }
    sites := { s.sites with links := bankMap s.sites.links fun z l => l.run base (s.zone z) }
    meter := { s.meter with timer := if s.meter.enabled then some (base + s.meter.interval * 1000) else none } }

/-- START (R182). -/
def orderStart (body : List Byte) (s : State) : State × Result :=
  match body with
  | [] => if s.running || s.sys.clock.isNone then (s, .state) else (enterRunning s, .done [])
  | _ => (s, .badForm)

/-- RESTART (R183): a start is arranged for when its answer has been sent. -/
def orderRestart (body : List Byte) (s : State) : State × Result :=
  match body with
  | [] => (s.setPort { s.port with restart := .arranged }, .done [])
  | _ => (s, .badForm)

def execIdentify (s : State) : Out := runOrder s (ofKind 0x31) orderIdentify
def execClockSet (s : State) : Out := runOrder s (ofKind 0x32) orderClockSet
def execClockRead (s : State) : Out := runOrder s (ofKind 0x33) orderClockRead
def execStart (s : State) : Out := runOrder s (ofKind 0x34) orderStart
def execRestart (s : State) : Out := runOrder s (ofKind 0x35) orderRestart
def execStoreErase (s : State) : Out := runOrder s (ofKind 0x36) orderStoreErase

end Sys2Proof.Machine
end

