-- ==== Sys2Proof/Machine/ZoneEvents.lean ====
section
/-! DEFINITION. Machine/ZoneEvents.lean: the timed events of zones and groups (R99, R109, R123) and the service of the ticket-wait
list (R104). -/

namespace Sys2Proof.Machine

/-- The hold of a zone's OPEN batch runs out: it closes and asks for the channel (R109). -/
def closeOnHold (s : State) (z : Zone) : State := fill s z

/-- BATCH_HOLD_EXPIRY (R109). -/
def execBatchHoldExpiry (z : Zone) (s : State) : Out :=
  match (s.zone z).making with
  | some b => if b.closed then .next s else finish (closeOnHold (elapseTo s b.holdEnds) z)
  | none => .next s

/-- GUARD_EXPIRY: the group becomes FREE, or grants the zone it chooses (R123). -/
def execGuardExpiry (g : GroupId) (s : State) : Out :=
  match (s.group g).state with
  | .guarding ends =>
    let s1 := elapseTo s ends
    finish (tryGrant (s1.setGroup g { s1.group g with state := .free }) g)
  | _ => .next s

/-- DRAIN_TIMEOUT (R99). -/
def execDrainTimeout (z : Zone) (s : State) : Out :=
  match (s.zone z).drainTimer with
  | some ends =>
    if (s.zone z).state = .draining then finish (breakDrain (elapseTo s ends) z .timedOut) else .next s
  | none => .next s

/-- SETTLE_WINDOW_EXPIRY (R99, R140). -/
def execSettleWindowExpiry (z : Zone) (s : State) : Out :=
  match (s.link z).settle with
  | some ends =>
    if (s.zone z).state = .settling then
      finish
        (settleOut (zoneNotice (setZoneState (elapseTo s ends) z .inService) z .settling .inService .settled) z)
    else .next s
  | none => .next s

/-- TICKET_WAIT_SERVICE (R104, log 31). -/
def execTicketWaitService (s : State) : Out :=
  if s.running && !s.dispatch.ticketWait.isEmpty && decide (0 < s.pool) then
    finish (serveTicketWait s.dispatch.ticketWait s)
  else .next s

end Sys2Proof.Machine
end

