-- ==== Sys2Proof/Machine/ZoneOrders.lean ====
section
/-! DEFINITION. Machine/ZoneOrders.lean: the meanings of the zone orders (R97, R98, R113 to R115) and the group orders (R125,
R126). -/

namespace Sys2Proof.Machine

/-- Time left until an end time. -/
def timeLeft (s : State) (ends : Nat) : Nat := ends - s.sys.base

/-! ## ZONE-CONFIG -/

/-- ZONE-CONFIG (R114), the drain timeout as a number of seconds (log 40). -/
def orderZoneConfig (body : List Byte) (s : State) : State × Result :=
  match readFields [1, 1, 1, 1] body with
  | some [z, g, drain, settle] =>
    match finOf 8 z, finOf 4 g, [5, 10, 15, 20].contains drain, within 1 15 settle with
    | some z, some g, true, some settle =>
      let r := s.zone z
      if r.state = .outOfService then
        (s.setZone z { r with homeGroup := g, drainTimeout := drain, settleWindow := settle }, .done [])
      else (s, .state)
    | _, _, _, _ => (s, .badValue)
  | _ => (s, .badForm)

/-! ## ZONE-SERVICE -/

/-- The direction field of a well-formed ZONE-SERVICE: IN 00h, OUT 01h. -/
def serviceFields (body : List Byte) : Option (Nat × Nat) :=
  match readFields [1, 1] body with
  | some [z, d] => some (z, d)
  | _ => none

/-- The order takes a zone out of service (log 5). -/
def isServiceOut (o : Order) : Bool :=
  o.kind == 0x24#8 && match serviceFields o.body with | some (_, d) => d == 1 | none => false

/-- Any other ZONE-SERVICE order (log 5). -/
def isServiceIn (o : Order) : Bool := o.kind == 0x24#8 && !isServiceOut o

/-- A zone is put into service by order: FAULTED while a take-out condition is present, else SETTLING (R97). -/
def serviceIn (s : State) (z : Zone) : State × Result :=
  if (s.zone z).state ≠ .outOfService then (s, .state)
  else if (s.link z).takeOutPresent then
    (zoneNotice (setZoneState s z .faulted) z .outOfService .faulted .order, .done [ZoneState.faulted.code])
  else
    (enterSettling (zoneNotice (setZoneState s z .settling) z .outOfService .settling .order) z,
      .done [ZoneState.settling.code])

/-- ZONE-SERVICE IN (R97, R113); a direction out of range is refused here (log 5). -/
def orderZoneServiceIn (body : List Byte) (s : State) : State × Result :=
  match serviceFields body with
  | none => (s, .badForm)
  | some (z, d) =>
    match finOf 8 z with
    | none => (s, .badValue)
    | some z => if d = 0 then serviceIn s z else (s, .badValue)

/-- A zone is taken out of service by order (R98). -/
def serviceOut (s : State) (z : Zone) : State × Result :=
  match (s.zone z).state with
  | .outOfService => (s, .state)
  | .draining => (s, .state)
  | .faulted =>
    (zoneNotice (setZoneState s z .outOfService) z .faulted .outOfService .order, .done [ZoneState.outOfService.code])
  | before =>
    let s1 := drainZone s z before
    (s1, .done [(s1.zone z).state.code])

/-- ZONE-SERVICE OUT (R98, R113). -/
def orderZoneServiceOut (body : List Byte) (s : State) : State × Result :=
  match serviceFields body with
  | none => (s, .badForm)
  | some (z, _) =>
    match finOf 8 z with
    | none => (s, .badValue)
    | some z => serviceOut s z

/-! ## ZONE-QUERY -/

/-- The time left on the settle window in SETTLING or on the drain timer in DRAINING (R115). -/
def zoneTimeLeft (s : State) (z : Zone) : Option Nat :=
  match (s.zone z).state with
  | .settling => (s.link z).settle.map (timeLeft s)
  | .draining => (s.zone z).drainTimer.map (timeLeft s)
  | _ => none

/-- The number of tickets of a queue and their total slot cost, the cost in 4 bytes (the model's choice, log 57). -/
def queueFields (l : List Ticket) : List Byte := be 2 l.length ++ be 4 (slotsOf l)

/-- The OPEN or CLOSED batch: state, tickets, slots, highest class, and for a CLOSED batch whether its request waits, each behind a
presence byte of its own (the model's choice, log 56). -/
def makingFields (b : Option MakingBatch) (waiting : Bool) : List Byte :=
  optField 1 (b.map fun b => if b.closed then 1 else 0) ++ optField 1 (b.map (·.tickets.length))
    ++ optField 1 (b.map fun b => slotsOf b.tickets) ++ optField 1 (b.map fun b => (highestClass b.tickets).code.toNat)
    ++ optField 1 (match b with | some b => if b.closed then some (yesNo waiting).toNat else none | none => none)

/-- The code of a SENT or ON_AIR batch, from the four batch states of 6.3 (the model's choice, log 59). -/
def SiteBatch.code (b : SiteBatch) : Nat := if b.onAir then 3 else 2

/-- The SENT or ON_AIR batch: state, number, tickets, slots, orphans, each behind a presence byte of its own (the model's choice,
log 56). -/
def siteFields (b : Option SiteBatch) : List Byte :=
  optField 1 (b.map (·.code)) ++ optField 1 (b.map (·.number.toNat)) ++ optField 1 (b.map (·.tickets.length))
    ++ optField 1 (b.map fun b => slotsOf b.tickets) ++ optField 1 (b.map fun b => countWhere b.tickets (·.orphan))

/-- EMERGENCY pages in the ticket-wait list. -/
def State.emergencyWaiting (s : State) : Nat :=
  countWhere s.dispatch.ticketWait fun r => match s.page r with | some p => p.cls == .emergency | none => false

/-- ZONE-QUERY (R115), the drain timeout as a number of seconds (log 40). -/
def orderZoneQuery (body : List Byte) (s : State) : State × Result :=
  match readFields [1] body with
  | some [z] =>
    match finOf 8 z with
    | none => (s, .badValue)
    | some z =>
      let r := s.zone z
      (s, .done
        (r.state.code :: numByte r.homeGroup :: (be 1 r.drainTimeout ++ be 1 r.settleWindow
          ++ optField 2 (zoneTimeLeft s z) ++ queueFields r.emergency ++ queueFields r.priority ++ queueFields r.normal
          ++ makingFields r.making (ZoneSet.mem (s.group r.homeGroup).requests z) ++ siteFields r.site
          ++ [numByte r.pattern, r.nextBatch] ++ be 2 s.pool ++ be 2 s.dispatch.ticketWait.length
          ++ be 2 s.emergencyWaiting)))
  | _ => (s, .badForm)

/-! ## GROUP-CONFIG and GROUP-QUERY -/

/-- The zones whose home group is a group (R117), in ascending zone number (the model's choice, log 53). -/
def State.members (s : State) (g : GroupId) : List Zone := allZones.filter fun z => s.groupOf z == g

/-- GROUP-CONFIG (R125), the guard time in 1 byte (the model's choice, log 54). -/
def orderGroupConfig (body : List Byte) (s : State) : State × Result :=
  match readFields [1, 1] body with
  | some [g, guard] =>
    match finOf 4 g with
    | none => (s, .badValue)
    | some g =>
      if 124 < guard ∨ guard % 4 ≠ 0 then (s, .badValue)
      else if (s.members g).any (fun z => (s.zone z).state != .outOfService) then (s, .state)
      else (s.setGroup g { s.group g with guardTime := guard }, .done [])
  | _ => (s, .badForm)

/-- The code of a group's state (R117). -/
def GroupState.code : GroupState → Byte
  | .free => 0
  | .granted _ => 1
  | .guarding _ => 2

/-- The granted zone. -/
def GroupState.zone : GroupState → Option Zone
  | .granted z => some z
  | _ => none

/-- GROUP-QUERY (R126): the guard time and its time left in 1 byte (log 54), the member zones ascending (log 53), the granted zone,
its batch's state and number each behind a presence byte (log 56), the state's code as in ZONE-QUERY (log 59); all are the model's
choices. -/
def orderGroupQuery (body : List Byte) (s : State) : State × Result :=
  match readFields [1] body with
  | some [g] =>
    match finOf 4 g with
    | none => (s, .badValue)
    | some g =>
      let q := s.group g
      let batch := q.state.zone.bind fun z => (s.zone z).site
      let left := match q.state with | .guarding ends => some (timeLeft s ends) | _ => none
      let members := s.members g
      let requests := (searchOrder q.pointer).filter fun z => ZoneSet.mem q.requests z
      (s, .done
        (be 1 q.guardTime ++ [q.state.code] ++ optField 1 (q.state.zone.map (·.val)) ++ optField 1 (batch.map (·.code))
          ++ optField 1 (batch.map (·.number.toNat)) ++ optField 1 left ++ [numByte q.pointer]
          ++ be 1 members.length ++ members.flatMap (fun z => [numByte z, (s.zone z).state.code])
          ++ be 1 requests.length ++ requests.flatMap (fun z => [numByte z, yesNo (s.zone z).emergencyRequest])))
  | _ => (s, .badForm)

/-! ## The commands -/

def execZoneConfig (s : State) : Out := runOrder s (ofKind 0x23) orderZoneConfig
def execZoneServiceIn (s : State) : Out := runOrder s isServiceIn orderZoneServiceIn
def execZoneServiceOut (s : State) : Out := runOrder s isServiceOut orderZoneServiceOut
def execZoneQuery (s : State) : Out := runOrder s (ofKind 0x25) orderZoneQuery
def execGroupConfig (s : State) : Out := runOrder s (ofKind 0x26) orderGroupConfig
def execGroupQuery (s : State) : Out := runOrder s (ofKind 0x27) orderGroupQuery

end Sys2Proof.Machine
end

