-- ==== Sys2Proof/Machine/Dispatch.lean ====
section
/-! DEFINITION. Machine/Dispatch.lean: one arm for each command. -/

namespace Sys2Proof.Machine

def exec (i : Instr) (s : State) : Host.Outcome State Fault Refusal :=
  match i with
  | .blockDefine => Sys2Proof.Machine.execBlockDefine s
  | .blockClear => Sys2Proof.Machine.execBlockClear s
  | .subDefine => Sys2Proof.Machine.execSubDefine s
  | .subAlter => Sys2Proof.Machine.execSubAlter s
  | .subState => Sys2Proof.Machine.execSubState s
  | .subClose => Sys2Proof.Machine.execSubClose s
  | .groupMembers => Sys2Proof.Machine.execGroupMembers s
  | .subQuery => Sys2Proof.Machine.execSubQuery s
  | .resolve => Sys2Proof.Machine.execResolve s
  | .lineConfig => Sys2Proof.Machine.execLineConfig s
  | .linePause => Sys2Proof.Machine.execLinePause s
  | .lineResume => Sys2Proof.Machine.execLineResume s
  | .lineQuery => Sys2Proof.Machine.execLineQuery s
  | .phraseSet => Sys2Proof.Machine.execPhraseSet s
  | .phraseClear => Sys2Proof.Machine.execPhraseClear s
  | .phraseQuery => Sys2Proof.Machine.execPhraseQuery s
  | .pageSubmit => Sys2Proof.Machine.execPageSubmit s
  | .pageCancel => Sys2Proof.Machine.execPageCancel s
  | .pageQuery => Sys2Proof.Machine.execPageQuery s
  | .classConfigRead => Sys2Proof.Machine.execClassConfigRead s
  | .classConfigWrite => Sys2Proof.Machine.execClassConfigWrite s
  | .heldList => Sys2Proof.Machine.execHeldList s
  | .accountOpen => Sys2Proof.Machine.execAccountOpen s
  | .accountSet => Sys2Proof.Machine.execAccountSet s
  | .accountState => Sys2Proof.Machine.execAccountState s
  | .accountCredit => Sys2Proof.Machine.execAccountCredit s
  | .accountQuery => Sys2Proof.Machine.execAccountQuery s
  | .accountClose => Sys2Proof.Machine.execAccountClose s
  | .tariffDefine => Sys2Proof.Machine.execTariffDefine s
  | .tariffQuery => Sys2Proof.Machine.execTariffQuery s
  | .periodClose => Sys2Proof.Machine.execPeriodClose s
  | .journalFetch => Sys2Proof.Machine.execJournalFetch s
  | .journalRelease => Sys2Proof.Machine.execJournalRelease s
  | .journalStatus => Sys2Proof.Machine.execJournalStatus s
  | .journalLevel => Sys2Proof.Machine.execJournalLevel s
  | .zoneConfig => Sys2Proof.Machine.execZoneConfig s
  | .zoneServiceIn => Sys2Proof.Machine.execZoneServiceIn s
  | .zoneServiceOut => Sys2Proof.Machine.execZoneServiceOut s
  | .zoneQuery => Sys2Proof.Machine.execZoneQuery s
  | .groupConfig => Sys2Proof.Machine.execGroupConfig s
  | .groupQuery => Sys2Proof.Machine.execGroupQuery s
  | .linkConfig => Sys2Proof.Machine.execLinkConfig s
  | .faultAction => Sys2Proof.Machine.execFaultAction s
  | .faultMask => Sys2Proof.Machine.execFaultMask s
  | .faultClear => Sys2Proof.Machine.execFaultClear s
  | .alarmMap => Sys2Proof.Machine.execAlarmMap s
  | .faultQuery => Sys2Proof.Machine.execFaultQuery s
  | .meterConfig => Sys2Proof.Machine.execMeterConfig s
  | .meterResetPeak => Sys2Proof.Machine.execMeterResetPeak s
  | .meterResetAverage => Sys2Proof.Machine.execMeterResetAverage s
  | .meterRead => Sys2Proof.Machine.execMeterRead s
  | .identify => Sys2Proof.Machine.execIdentify s
  | .clockSet => Sys2Proof.Machine.execClockSet s
  | .clockRead => Sys2Proof.Machine.execClockRead s
  | .start => Sys2Proof.Machine.execStart s
  | .restart => Sys2Proof.Machine.execRestart s
  | .storeErase => Sys2Proof.Machine.execStoreErase s
  | .unknownOrderKind => Sys2Proof.Machine.execUnknownOrderKind s
  | .officeFrameReceived bytes => Sys2Proof.Machine.execOfficeFrameReceived bytes s
  | .officeFrameGap bytes => Sys2Proof.Machine.execOfficeFrameGap bytes s
  | .officeFrameLength high low => Sys2Proof.Machine.execOfficeFrameLength high low s
  | .answerSent => Sys2Proof.Machine.execAnswerSent s
  | .noticeSent => Sys2Proof.Machine.execNoticeSent s
  | .linkHoldChange high => Sys2Proof.Machine.execLinkHoldChange high s
  | .restartStart => Sys2Proof.Machine.execRestartStart s
  | .resetPin => Sys2Proof.Machine.execResetPin s
  | .powerUp rate without => Sys2Proof.Machine.execPowerUp rate without s
  | .backupVoltageLow => Sys2Proof.Machine.execBackupVoltageLow s
  | .lineByteReceived line byte framingError => Sys2Proof.Machine.execLineByteReceived line byte framingError s
  | .lineOpen line => Sys2Proof.Machine.execLineOpen line s
  | .lineClose line => Sys2Proof.Machine.execLineClose line s
  | .lineCharacterConsumed line => Sys2Proof.Machine.execLineCharacterConsumed line s
  | .promptSent line => Sys2Proof.Machine.execPromptSent line s
  | .entryTimeout line => Sys2Proof.Machine.execEntryTimeout line s
  | .idleTimeout line => Sys2Proof.Machine.execIdleTimeout line s
  | .admitWaitRetry => Sys2Proof.Machine.execAdmitWaitRetry s
  | .admitWaitLimit line => Sys2Proof.Machine.execAdmitWaitLimit line s
  | .retryDue => Sys2Proof.Machine.execRetryDue s
  | .ackDeadline => Sys2Proof.Machine.execAckDeadline s
  | .expiry => Sys2Proof.Machine.execExpiry s
  | .ticketWaitService => Sys2Proof.Machine.execTicketWaitService s
  | .ackTaken => Sys2Proof.Machine.execAckTaken s
  | .registerTaken => Sys2Proof.Machine.execRegisterTaken s
  | .batchHoldExpiry zone => Sys2Proof.Machine.execBatchHoldExpiry zone s
  | .batchFrameSent zone => Sys2Proof.Machine.execBatchFrameSent zone s
  | .guardExpiry group => Sys2Proof.Machine.execGuardExpiry group s
  | .drainTimeout zone => Sys2Proof.Machine.execDrainTimeout zone s
  | .settleWindowExpiry zone => Sys2Proof.Machine.execSettleWindowExpiry zone s
  | .statusReceived zone bytes => Sys2Proof.Machine.execStatusReceived zone bytes s
  | .siteFrameGap zone bytes => Sys2Proof.Machine.execSiteFrameGap zone bytes s
  | .pollSend zone => Sys2Proof.Machine.execPollSend zone s
  | .takeTimeout zone => Sys2Proof.Machine.execTakeTimeout zone s
  | .carrierTimeout zone => Sys2Proof.Machine.execCarrierTimeout zone s
  | .silenceTimeout zone => Sys2Proof.Machine.execSilenceTimeout zone s
  | .resyncTimeout zone => Sys2Proof.Machine.execResyncTimeout zone s
  | .meterIntervalEnd => Sys2Proof.Machine.execMeterIntervalEnd s

end Sys2Proof.Machine
end

