-- ==== Sys2Proof/Machine/Step.lean ====
section
/-! DEFINITION. Machine/Step.lean: one step of the part: the command at the front of the queue, or, with none, a millisecond. -/

namespace Sys2Proof.Machine

/-- One step. With no command waiting the tick takes the place of idling: one millisecond passes (log 3). -/
def step (s : State) : Host.Outcome State Fault Refusal :=
  match s.pending with
  | [] => .next (elapse s 1)
  | c :: rest => exec c (s.setPending rest)

/-- The state with the command a word spells at the front of its queue; no word spells one (Decode.lean). -/
def State.withFetchWord (s : State) (nbits w : Nat) : State :=
  match decodeTableWord nbits w with
  | some c => s.setPending (c :: s.pending)
  | none => s

end Sys2Proof.Machine
end

