-- ==== Sys2Proof/Machine/SiteRules.lean ====
section
/-! DEFINITION. Machine/SiteRules.lean: what the part expects of a site (R138): the site's side of a link, for a site that keeps to the
table of R138. A site is not part of the chip, so no field of State holds it and no command runs it; what it sends reaches the part as
the bytes of STATUS_RECEIVED. The part's side takes any bytes: a site that departs from R138 is met by the discards of R129
(`discardSiteFrame`), the resyncs (`stageResync`, `stageToggles`, `beginResync`), the link timers (`execTakeTimeout`,
`execSilenceTimeout`, `execResyncTimeout`, `execCarrierTimeout`) and the faults they raise (`loseLink`, `setPresent`). -/

namespace Sys2Proof.Machine

/-- A batch at a site: its toggle and its entries in the order they are sent on the air (R138). -/
structure BatchTaken where
  toggle : Bool
  entries : List BatchEntry
  deriving DecidableEq, Repr

/-- What a site that keeps to R138 holds of its link (the list of batches: log 60). -/
structure SiteSide where
  tt : Bool
  dt : Bool
  /-- Batches taken and not yet keyed. -/
  waiting : List BatchTaken
  /-- The batch the transmitter is keyed for. -/
  keyed : Option BatchTaken
  /-- Whether the last POLL asked RESYNC. -/
  resyncAsked : Bool
  carrier : Bool
  fwdPowerLow : Bool
  reflectedHigh : Bool
  siteAlarm : Bool
  rt : Bool
  reports : List Report
  /-- Whether a POLL has carried RA equal to RT, so that other reports may be offered. -/
  echoed : Bool
  deriving DecidableEq, Repr

namespace SiteSide

/-- On receiving BATCH: taken only if its toggle differs from TT, which then is the toggle; else discarded (R138). -/
def onBatch (y : SiteSide) (toggle : Bool) (entries : List BatchEntry) : SiteSide :=
  if toggle = y.tt then y else { y with tt := toggle, waiting := y.waiting ++ [⟨toggle, entries⟩] }

/-- With a batch taken, the site keys its transmitter for it (R138). -/
def key (y : SiteSide) : SiteSide :=
  match y.keyed, y.waiting with
  | none, b :: rest => { y with keyed := some b, waiting := rest }
  | _, _ => y

/-- On unkeying, DT is set to the batch's toggle (R138). -/
def unkey (y : SiteSide) : SiteSide :=
  match y.keyed with
  | some b => { y with dt := b.toggle, keyed := none }
  | none => y

/-- On a POLL with RESYNC: a batch not yet keyed is discarded, a keyed one goes on, TT and DT are set to the ST the POLL carries
(R138). -/
def resync (y : SiteSide) (st : Bool) : SiteSide := { y with waiting := [], tt := st, dt := st }

/-- On a POLL, whose byte holds RA, whether RA is given, RESYNC and ST (12.3): RA equal to RT is the echo of the reports held; RESYNC
is answered while it is asked (R138). -/
def onPoll (y : SiteSide) (poll : Byte) : SiteSide :=
  let heard :=
    { y with
      resyncAsked := poll.getLsbD 2
      echoed := y.echoed || (poll.getLsbD 1 && poll.getLsbD 0 == y.rt) }
  if poll.getLsbD 2 then heard.resync (poll.getLsbD 3) else heard

/-- Other reports are offered, under the other RT value, only after a POLL has carried RA equal to RT; a STATUS has room for four
(R138, 8.1). -/
def offer (y : SiteSide) (reports : List Report) : SiteSide :=
  if y.echoed ∧ reports.length ≤ 4 then { y with rt := !y.rt, reports := reports, echoed := false } else y

/-- The carrier and the conditions as they stand at the site (R138). -/
def sense (y : SiteSide) (carrier fwdPowerLow reflectedHigh siteAlarm : Bool) : SiteSide :=
  { y with carrier, fwdPowerLow, reflectedHigh, siteAlarm }

/-- The STATUS the site sends: TT, DT, RT and its reports, carrier and conditions as they stand, RESYNC-ACK while RESYNC is asked
(R138). -/
def status (y : SiteSide) : Status :=
  { carrier := y.carrier, tt := y.tt, dt := y.dt, resyncAck := y.resyncAsked, fwdPowerLow := y.fwdPowerLow
    reflectedHigh := y.reflectedHigh, siteAlarm := y.siteAlarm, rt := y.rt, reports := y.reports }

/-- When a STATUS is due, given the one sent last and the milliseconds since: at least every 500 ms, and at once on any change of
carrier, TT, DT, a condition or the reports (R138). -/
def statusDue (y : SiteSide) (sent : Status) (elapsed : Nat) : Bool :=
  decide (Config.siteStatusInterval ≤ elapsed) || { y.status with resyncAck := sent.resyncAck } != sent

end SiteSide

/-! ## The frame of a STATUS (12.3) -/

/-- A report of a STATUS, its padding bytes, which the part disregards, as 0. -/
def Report.bytes : Report → List Byte
  | .ack air reference none zone => 1 :: be 3 air ++ be 2 reference ++ [0, 0] ++ be 1 zone.val
  | .ack air reference (some choice) zone => 1 :: be 3 air ++ be 2 reference ++ 1 :: be 1 choice ++ be 1 zone.val
  | .register air zone => 2 :: be 3 air ++ [0, 0, 0, 0] ++ be 1 zone.val

/-- The flags byte of a STATUS. -/
def Status.flags (x : Status) : Byte :=
  BitVec.ofBoolListLE [x.carrier, x.tt, x.dt, x.resyncAck, x.fwdPowerLow, x.reflectedHigh, x.siteAlarm, false]

/-- The frame of a STATUS. -/
def Status.frame (x : Status) : List Byte :=
  siteFrame 0x03 (x.flags :: yesNo x.rt :: be 1 x.reports.length ++ x.reports.flatMap (·.bytes))

end Sys2Proof.Machine
end

