-- ==== Sys2Proof/Safety.lean ====
section
/-! DEFINITION. Safety.lean: the words the statements are made of: an order that can be executed, what answering it leaves,
which order rows run which orders, and the laws of the part that every step keeps. -/

namespace Sys2Proof.Machine

/-! ## Orders -/

/-- An order of a kind, tag and body stands at the head of the order queue and the port can execute it: the answer slot is
empty, and no start is due (R176, R183). -/
def OrderAt (s : State) (kind tag : Byte) (body : List Byte) (rest : List Order) : Prop :=
  s.port.orders = ⟨kind, tag, body⟩ :: rest ∧ s.port.slot = none ∧ s.port.restart ≠ .due

/-- The state an order is executed in: it has left the queue (R176). -/
def taken (s : State) (rest : List Order) : State := s.setPort { s.port with orders := rest }

/-- The end of an order whose effect left t: its answer, with its tag and its kind's top bit set, stands in the answer slot,
ready behind the answers that were ready before it, and a free output line has begun its next frame (R176, R177, R179). -/
def answered (t : State) (kind tag : Byte) (r : Result) : Out :=
  .next
    (pump
      (t.setPort
        { t.port with slot := some ⟨kind ||| 0x80, tag, r.body⟩, ready := t.port.ready ++ [.slot] }))

/-- The kind of order a row executes (12.2). -/
def orderKind : Instr → Option Nat
  | .blockDefine => some 0x01
  | .blockClear => some 0x02
  | .subDefine => some 0x03
  | .subAlter => some 0x04
  | .subState => some 0x05
  | .subClose => some 0x06
  | .groupMembers => some 0x07
  | .subQuery => some 0x08
  | .resolve => some 0x09
  | .lineConfig => some 0x0A
  | .linePause => some 0x0B
  | .lineResume => some 0x0C
  | .lineQuery => some 0x0D
  | .phraseSet => some 0x0E
  | .phraseClear => some 0x0F
  | .phraseQuery => some 0x10
  | .pageSubmit => some 0x11
  | .pageCancel => some 0x12
  | .pageQuery => some 0x13
  | .classConfigRead => some 0x14
  | .classConfigWrite => some 0x14
  | .heldList => some 0x15
  | .accountOpen => some 0x16
  | .accountSet => some 0x17
  | .accountState => some 0x18
  | .accountCredit => some 0x19
  | .accountQuery => some 0x1A
  | .accountClose => some 0x1B
  | .tariffDefine => some 0x1C
  | .tariffQuery => some 0x1D
  | .periodClose => some 0x1E
  | .journalFetch => some 0x1F
  | .journalRelease => some 0x20
  | .journalStatus => some 0x21
  | .journalLevel => some 0x22
  | .zoneConfig => some 0x23
  | .zoneServiceIn => some 0x24
  | .zoneServiceOut => some 0x24
  | .zoneQuery => some 0x25
  | .groupConfig => some 0x26
  | .groupQuery => some 0x27
  | .linkConfig => some 0x28
  | .faultAction => some 0x29
  | .faultMask => some 0x2A
  | .faultClear => some 0x2B
  | .alarmMap => some 0x2C
  | .faultQuery => some 0x2D
  | .meterConfig => some 0x2E
  | .meterResetPeak => some 0x2F
  | .meterResetAverage => some 0x2F
  | .meterRead => some 0x30
  | .identify => some 0x31
  | .clockSet => some 0x32
  | .clockRead => some 0x33
  | .start => some 0x34
  | .restart => some 0x35
  | .storeErase => some 0x36
  | _ => none

/-- A row executes an order: by its kind, and where two rows share a kind by the form of the body (log 5). -/
def runsOrder (c : Instr) (o : Order) : Bool :=
  match c with
  | .unknownOrderKind => decide (o.kind.toNat = 0) || decide (0x37 ≤ o.kind.toNat)
  | .classConfigRead => decide (o.kind.toNat = 0x14) && decide (o.body.length = 1)
  | .classConfigWrite => decide (o.kind.toNat = 0x14) && decide (o.body.length ≠ 1)
  | .zoneServiceIn => decide (o.kind.toNat = 0x24) && decide (¬ (o.body.length = 2 ∧ o.body.drop 1 = [1]))
  | .zoneServiceOut => decide (o.kind.toNat = 0x24) && decide (o.body.length = 2 ∧ o.body.drop 1 = [1])
  | .meterResetPeak => decide (o.kind.toNat = 0x2F) && decide (¬ (o.body.length = 2 ∧ o.body.drop 1 = [1]))
  | .meterResetAverage => decide (o.kind.toNat = 0x2F) && decide (o.body.length = 2 ∧ o.body.drop 1 = [1])
  | c => decide (orderKind c = some o.kind.toNat)

/-- The numbers of the classes in a body (12.2). -/
def classNumber : PageClass → Nat
  | .emergency => 0
  | .priority => 1
  | .normal => 2

/-- The numbers of the kinds of pager in a body (R188: in the order of 1.1). -/
def kindNumber : PagerKind → Nat
  | .numeric => 0
  | .alpha => 1
  | .twoWay => 2

/-- The numbers of the states of a defined subscriber in a body (log 12). -/
def stateNumber : SubState → Nat
  | .active => 1
  | .suspended => 2

/-- The numbers of the line classes in a body (R188, log 9). -/
def lineClassNumber : LineClass → Nat
  | .caller => 0
  | .console => 1

/-- The order rows whose order has one body length, with that length: the sum of the sizes of its fields (R188; sizes and
presence bytes that it leaves to inference by logs 10, 13, 40, 47 and 54). -/
def fixedLengths : List (Instr × Nat) :=
  [(.blockDefine, 9), (.blockClear, 1), (.subAlter, 15), (.subState, 3), (.subClose, 2), (.subQuery, 2), (.resolve, 5),
    (.lineConfig, 6), (.linePause, 1), (.lineResume, 1), (.lineQuery, 1), (.phraseClear, 1), (.phraseQuery, 1),
    (.pageCancel, 2), (.pageQuery, 2), (.heldList, 2)]
    ++ [(.accountOpen, 14), (.accountSet, 13), (.accountState, 3), (.accountCredit, 6), (.accountQuery, 2),
      (.accountClose, 2), (.tariffDefine, 13), (.tariffQuery, 1), (.periodClose, 2), (.journalFetch, 1),
      (.journalRelease, 4), (.journalStatus, 0), (.journalLevel, 2), (.zoneConfig, 4), (.zoneServiceIn, 2), (.zoneQuery, 1),
      (.groupConfig, 2), (.groupQuery, 1)]
    ++ [(.linkConfig, 2), (.faultAction, 3), (.faultMask, 3), (.faultClear, 2), (.alarmMap, 2), (.faultQuery, 1),
      (.meterConfig, 35), (.meterResetPeak, 2), (.meterRead, 1), (.identify, 0), (.clockSet, 4), (.clockRead, 0),
      (.start, 0), (.restart, 0), (.storeErase, 0)]

/-- The order rows whose body ends in a counted field, a text or a list: the bytes before its count, the bytes of one entry, and the
most entries (R187, R188; a list's count may be any byte). -/
def countedLengths : List (Instr × Nat × Nat × Nat) :=
  [(.subDefine, 17, 2, 255), (.groupMembers, 2, 2, 255), (.phraseSet, 1, 1, 40), (.pageSubmit, 4, 1, 240)]

/-- A body has its fixed fields, then a count of at most `most`, then that number of entries and nothing more. -/
def Counted (body : List Byte) (fixed entry most : Nat) : Prop :=
  ∃ count, body[fixed]? = some count ∧ count.toNat ≤ most ∧ body.length = fixed + 1 + entry * count.toNat

/-! ## Notices -/

/-- The kind and the body of a notice as they stand in its frame: kinds C1h to CFh in the order of R178, and the bodies of 12.2 or, by
R188, the fields its rule lists (R54, R72, R89, R101, R141, R151 to R153, R170; the codes and presence bytes by logs 9, 11
and 56). -/
def noticeBytes (n : Notice) : List Byte :=
  let zone (z : Zone) : Byte := BitVec.ofNat 8 z.val
  let zoneState (x : ZoneState) : Byte := match x with
    | .outOfService => 0 | .settling => 1 | .inService => 2 | .draining => 3 | .faulted => 4
  let ack (choice : Option Nat) : List Byte := match choice with
    | none => [0, 0, 0]
    | some c => [1, 1] ++ be 1 c
  match n with
  | .frameRejected reason => [0xC1, (match reason with | .crc => 0 | .length => 1 | .gap => 2 | .overflow => 3)]
  | .noticesLost count => 0xC2 :: be 2 count
  | .started cause store set =>
    [0xC3, (match cause with | .powerUp => 0 | .restart => 1 | .reset => 2), (match store with | .empty => 0 | .valid => 1),
      if set then 1 else 0]
  | .lineOverrun line => [0xC4, BitVec.ofNat 8 line.val]
  | .pageOutcome reference subscriber via outcome units =>
    0xC5 :: (be 2 reference ++ be 2 subscriber ++ optField 2 via
      ++ [(match outcome with | .delivered => 0 | .expired => 1 | .cancelled => 2 | .undeliverable => 3)] ++ be 4 units)
  | .lowBalance account balance threshold => 0xC6 :: (be 2 account ++ beSigned 4 balance ++ be 4 threshold)
  | .journalHigh isSet held level => [0xC7, if isSet then 0 else 1] ++ be 2 held ++ be 2 level
  | .zoneState z before after cause =>
    [0xC8, zone z, zoneState before, zoneState after,
      (match cause with
        | .order => 0 | .takeOut => 1 | .takeOutClear => 2 | .settled => 3 | .drainCompleted => 4 | .drainTimedOut => 5
        | .drainFaulted => 6)]
  | .drainDone z result aired notAired orphans =>
    [0xC9, zone z, (match result with | .completed => 0 | .timedOut => 1 | .faulted => 2)]
      ++ be 1 aired ++ be 1 notAired ++ be 1 orphans
  | .faultChange z kind latched present =>
    [0xCA, zone z,
      (match kind with | .linkLost => 0 | .carrierStuck => 1 | .fwdPowerLow => 2 | .reflectedHigh => 3 | .siteAlarm => 4),
      if latched then 0 else 1, if present then 1 else 0]
  | .reply reference subscriber via choice z =>
    0xCB :: (be 2 reference ++ be 2 subscriber ++ optField 2 via ++ be 1 choice ++ [zone z])
  | .lateAck air reference choice z => 0xCC :: (be 3 air ++ be 2 reference ++ ack choice ++ [zone z])
  | .unmatchedAck air reference choice z subscriber =>
    0xCD :: (be 3 air ++ be 2 reference ++ ack choice ++ [zone z] ++ optField 2 subscriber)
  | .unmatchedRegister air z found =>
    0xCE :: (be 3 air ++ [zone z]
      ++ (match found with
          | none => [0, 0, 0, 0, 0]
          | some (i, kind) =>
            1 :: be 2 i ++ [1, (match kind with | .numeric => 0 | .alpha => 1 | .twoWay => 2 | .group => 3)]))
  | .congestionChange z congested average threshold hysteresis =>
    [0xCF, zone z, if congested then 0 else 1] ++ be 2 average ++ be 2 threshold ++ be 2 hysteresis

/-! ## The journal -/

/-- A record for an account has been appended between two states (R83, R85, R89, R142): it stands behind the others with the next
sequence number; the JOURNAL-HIGH condition is as the level gives it; a change of the condition is notified, and with it the
alarm outputs are evaluated. -/
def RecordAppended (s t : State) (account : Nat) (body : JournalBody) : Prop :=
  let held := s.journal.records.length + 1
  let high := decide (s.journal.level ≤ held)
  t.journal
      = { s.journal with
          records := s.journal.records ++ [⟨s.journal.nextSeq, s.sys.clock.map (· / 1000), account, body⟩]
          nextSeq := s.journal.nextSeq + 1
          high := high }
    ∧ t.sites.links = s.sites.links
    ∧ (high = s.journal.high → t.sites = s.sites)
    ∧ (high ≠ s.journal.high → s.port.lost = 0 → s.port.notices.length < 64 →
        (.journalHigh high held s.journal.level) ∈ t.port.notices)

/-! ## The outcome of a page -/

/-- The units an outcome charges (R70). -/
def chargedUnits (o : PageOutcome) (p : Page) : Nat :=
  if o = .delivered then p.estimate else if p.transmissions = 0 then 0 else p.attemptFee

/-- The LOW-BALANCE notice of a settlement of an account, if one is due (R72): units are charged, a threshold is present, the balance they
leave is below it, and low-notice given is no. -/
def lowBalanceRaised (a : Nat) (x : Option Account) (units : Nat) : List Notice :=
  match x.map Account.money with
  | some (.prepaid balance (some threshold) false) =>
    let left := max (-2147483648) (balance - units)
    if 0 < units ∧ left < threshold then [.lowBalance a left threshold] else []
  | _ => []

/-- What an outcome does to the account of the page (R71, R65, R72): charge and period counts, reservation and live pages; units charged
that leave a PREPAID balance below its threshold set low-notice given. -/
def AccountSettled (x y : Account) (o : PageOutcome) (p : Page) : Prop :=
  y.state = x.state ∧ y.plan = x.plan ∧ y.subRefs = x.subRefs
    ∧ y.periodCharged = min 4294967295 (x.periodCharged + chargedUnits o p)
    ∧ y.periodDelivered = (if o = .delivered then min 4294967295 (x.periodDelivered + 1) else x.periodDelivered)
    ∧ y.periodNotDelivered
        = (if o = .delivered then x.periodNotDelivered else min 4294967295 (x.periodNotDelivered + 1))
    ∧ y.reserved = x.reserved - p.estimate ∧ y.livePages = x.livePages - 1
    ∧ match x.money with
      | .postpaid limit => y.money = .postpaid limit
      | .prepaid balance threshold given =>
        let left := max (-2147483648) (balance - chargedUnits o p)
        ∃ noted, y.money = .prepaid left threshold noted
          ∧ (noted = true ↔ given = true ∨ 0 < chargedUnits o p ∧ ∃ n, threshold = some n ∧ left < n)

/-- A page has reached an outcome between two states (R53, R54): its record is freed, one OUTCOME record is appended, its account is
settled, it stands in no list, no queue and no unsent batch, its tickets at the sites are orphans, and no other page, no other
account and no subscriber is changed. The zones, the groups and the links are as its tickets' being given up leaves them (R53), which
BatchesTakeTicketsInTurn says; room is announced to a waiting line (R43, counted by log 20); and the notices raised are JOURNAL-HIGH at a
change, LOW-BALANCE and PAGE-OUTCOME, each as its rule asks (R89, R72, R54; JOURNAL-HIGH first by log 36). -/
def OutcomeReached (s t : State) (r : Nat) (p : Page) (o : PageOutcome) (zone : Option Zone) : Prop :=
  t.store.pages = Table.erase s.store.pages r
    ∧ t.journal.records
        = s.journal.records
          ++ [⟨s.journal.nextSeq, s.sys.clock.map (· / 1000), p.account,
                .outcome p.subscriber p.via r p.cls o (chargedUnits o p) p.body.length p.transmissions zone⟩]
    ∧ t.journal.nextSeq = s.journal.nextSeq + 1 ∧ t.journal.level = s.journal.level
    ∧ t.journal.high = decide (s.journal.level ≤ s.journal.records.length + 1)
    ∧ (∀ x, s.account p.account = some x → ∃ y, t.account p.account = some y ∧ AccountSettled x y o p)
    ∧ (∀ a, a ≠ p.account → t.account a = s.account a) ∧ t.money.plans = s.money.plans
    ∧ t.sched.retryDue = s.sched.retryDue.filter (fun e => e.2 != r)
    ∧ t.sched.ackDeadline = s.sched.ackDeadline.filter (fun e => e.2 != r)
    ∧ t.sched.expiry = s.sched.expiry.filter (fun e => e.2 != r)
    ∧ t.sched.classes = s.sched.classes
    ∧ t.dispatch.ticketWait = s.dispatch.ticketWait.filter (fun x => x != r)
    ∧ t.mailbox p.subscriber
        = (if p.state = .held then (s.mailbox p.subscriber).filter (fun x => x != r) else s.mailbox p.subscriber)
    ∧ (∀ i, i ≠ p.subscriber → t.mailbox i = s.mailbox i)
    ∧ t.store.refCounter = s.store.refCounter
    ∧ (∀ z : Zone, (∀ k ∈ (t.zone z).unsent, k.reference ≠ r) ∧ ∀ k ∈ (t.zone z).atSite, k.reference = r → k.orphan = true)
    ∧ t.dir = s.dir ∧ t.meter = s.meter ∧ t.returns = s.returns ∧ t.sys = s.sys
    ∧ t.port.orders = s.port.orders ∧ t.port.slot = s.port.slot ∧ t.port.mode = s.port.mode
    ∧ (s.port.lost = 0 → s.port.notices.length ≤ 61 → t.port.lost = 0
        ∧ t.port.notices
            = s.port.notices
              ++ (if t.journal.high = s.journal.high then []
                else [.journalHigh t.journal.high (s.journal.records.length + 1) s.journal.level])
              ++ lowBalanceRaised p.account (s.account p.account) (chargedUnits o p)
              ++ (if (s.params p.cls).outcomeNotices = true then [.pageOutcome r p.subscriber p.via o (chargedUnits o p)]
                else []))
    ∧ (let u := giveUpTickets s r
      t.dispatch.zones = u.dispatch.zones ∧ t.arbiter = u.arbiter ∧ t.sites.links = u.sites.links)
    ∧ t.intake
        = { s.intake with
            announcements := s.intake.announcements + (if s.intake.waitList = [] then 0 else 1) }

/-! ## Zones taken out of service -/

/-- Notices have been raised between two states, at most some number of them (R178): none is lost where the queue has places for so many,
and where none is lost the queue holds what is said. -/
def Notified (s t : State) (most : Nat) (said : Prop) : Prop :=
  (s.port.lost = 0 → s.port.notices.length + most ≤ 64 → t.port.lost = 0) ∧ (t.port.lost = 0 → said)

/-- The notices hold the two of a drain's end, ZONE-STATE and right behind it DRAIN-DONE, with the counts of the tickets that the batch at
the site had, reported aired or not (R101). -/
def DrainNotified (t : State) (z : Zone) (result : DrainResult) (tickets : List Ticket) (aired : Bool) : Prop :=
  let cause : ZoneCause := match result with
    | .completed => .drainCompleted
    | .timedOut => .drainTimedOut
    | .faulted => .drainFaulted
  let orphans := (tickets.filter (·.orphan)).length
  let live := tickets.length - orphans
  ∃ before behind, t.port.notices
    = before ++ .zoneState z .draining .outOfService cause
        :: .drainDone z result (if aired then live else 0) (if aired then 0 else live) orphans :: behind

/-- A fault kind is present with the action TAKE_OUT (R96). -/
def TakeOutAt (s : State) (z : Zone) : Prop :=
  ∃ k : FaultKind, ((s.link z).fault k).present = true ∧ ((s.link z).fault k).takeOut = true

/-- Some tickets of a page that are not orphans. -/
def ticketsOf (n : Nat) (tickets : List Ticket) : Nat := (tickets.filter fun y => y.reference == n && !y.orphan).length

/-- Some tickets of a page that has aired nothing in its attempt have been reported not aired between two states (R50, R161, R162): a
page with tickets left goes on, one with none left waits its retry base from now, its attempts not counted. -/
def ReportedNotAired (s t : State) (tickets : List Ticket) (n : Nat) : Prop :=
  ∀ p, s.page n = some p → p.state = .attempt → p.aired = false →
    (ticketsOf n tickets < p.ticketsOut →
      t.page n = some { p with ticketsOut := p.ticketsOut - ticketsOf n tickets })
    ∧ (ticketsOf n tickets = p.ticketsOut → 0 < p.ticketsOut →
      t.page n
        = some
            { p with
              ticketsOut := 0, state := .retryWait, ackDeadline := none
              retryDue := some (min 4294967295999 (t.now + (s.params p.cls).retryBase * 1000)) })

/-- What a zone's batch at the site leaves when it ends or is abandoned (R111, R122, R168, R134, R135): no batch, its group in the
guard, its slots metered if it had aired. -/
def SiteCleared (s t : State) (z : Zone) : Prop :=
  (t.zone z).site = none
    ∧ ∀ b, (s.zone z).site = some b →
      (t.group (s.groupOf z)).state = .guarding (t.sys.base + (s.group (s.groupOf z)).guardTime)
        ∧ (t.zoneMeter z).count
            = (if b.onAir = true ∧ s.meter.enabled = true then
                min 65535 ((s.zoneMeter z).count + (b.tickets.map (·.cost)).sum)
              else (s.zoneMeter z).count)

/-- A link once the batch it holds has been abandoned (R135, R134): it holds none and ST keeps its value; a batch whose frame was sent
stops the take timeout and begins a resync, one whose frame is withheld leaves resync pending as it is, and one ON_AIR leaves the
carrier timer running in no-batch mode if the last reported carrier was ON, else stopped. -/
def abandonedLink (l : LinkRec) (base : Nat) : LinkRec :=
  match l.batch with
  | .none => l
  | .withheld _ => { l with batch := .none }
  | .sent =>
    { l with
      batch := .none, take := none, resyncPending := true
      resync := if l.resyncPending then l.resync else some (base + l.window * 1000) }
  | .onAir =>
    { l with
      batch := .none
      carrier := match l.carrier, l.last with
        | some (_, ends), some x => if x.carrier then some (false, ends) else none
        | _, _ => none }

/-- A zone's link once what the zone has at its site has been abandoned: unchanged with nothing there (R111, R135). -/
def leftLink (s : State) (z : Zone) : LinkRec :=
  if (s.zone z).site = none then s.link z else abandonedLink (s.link z) s.sys.base

/-- A take-out condition has appeared in a zone that had none, between two states (R100, R111, R112): a zone in service is FAULTED, its
unsent tickets withdrawn and its batch at the site abandoned; a draining zone is OUT_OF_SERVICE with its batch abandoned; any other
zone is as it was; no other zone changes state. The link is as the abandonment leaves it (R134, R135), its settle timer stopped where
the zone was in SETTLING (R140), and but for its fault kinds otherwise as it was. The change and a drain's end are notified (R101),
behind the notices of the pages whose tickets end by it (log 21). -/
def TakenOut (s t : State) (z : Zone) : Prop :=
  (match (s.zone z).state with
    | .inService | .settling =>
      (t.zone z).state = .faulted ∧ (t.zone z).emergency = [] ∧ (t.zone z).priority = [] ∧ (t.zone z).normal = []
        ∧ (t.zone z).making = none ∧ SiteCleared s t z
        ∧ t.link z
            = { leftLink s z with
                settle := if (s.zone z).state = .settling then none else (s.link z).settle, faults := (t.link z).faults }
        ∧ Notified s t (3 * (s.zone z).live.length + 3) ((.zoneState z (s.zone z).state .faulted .takeOut) ∈ t.port.notices)
        ∧ ∀ n, ((∃ b, (s.zone z).site = some b ∧ b.onAir = true) → ticketsOf n (s.zone z).atSite = 0) →
            ReportedNotAired s t (s.zone z).live n
    | .draining =>
      (s.zone z).making = none → (s.zone z).queued = [] →
        (t.zone z).state = .outOfService ∧ (t.zone z).drainTimer = none ∧ SiteCleared s t z
        ∧ t.link z = { leftLink s z with faults := (t.link z).faults }
        ∧ Notified s t (3 * (s.zone z).live.length + 3)
            (DrainNotified t z .faulted (s.zone z).atSite ((s.zone z).site.any (·.onAir)))
        ∧ ∀ n, ((∃ b, (s.zone z).site = some b ∧ b.onAir = true) → ticketsOf n (s.zone z).atSite = 0) →
            ReportedNotAired s t (s.zone z).atSite n
    | .faulted | .outOfService => t.zone z = s.zone z ∧ t.link z = { s.link z with faults := (t.link z).faults })
    ∧ (∀ y : Zone, y ≠ z → (t.zone y).state = (s.zone y).state)
    ∧ t.dir = s.dir ∧ t.returns = s.returns ∧ t.intake.lines = s.intake.lines

/-! ## Faults that appear -/

/-- A fault kind of a zone has become present between two states (R139, R141, R96): it is latched, a flag newly set is notified unless
masked, and a first take-out condition takes the zone out; any other leaves the zones and the rest of the link as they were. No
other kind is changed, FWD-POWER-LOW apart where the zone leaves SETTLING (R140). -/
def ConditionAppeared (s t : State) (z : Zone) (k : FaultKind) : Prop :=
  let f := (s.link z).fault k
  (t.link z).fault k = { f with present := true, latched := true }
    ∧ (f.latched = false → f.masked = false → s.port.lost = 0 → s.port.notices.length < 64 →
        (.faultChange z k true true) ∈ t.port.notices)
    ∧ (∀ j, j ≠ k → ((s.zone z).state = .settling → j ≠ .fwdPowerLow) → (t.link z).fault j = (s.link z).fault j)
    ∧ (f.takeOut = true → ¬ TakeOutAt s z → TakenOut s t z)
    ∧ (f.takeOut = false ∨ TakeOutAt s z →
        t.dispatch = s.dispatch ∧ t.arbiter = s.arbiter ∧ t.store = s.store
          ∧ t.link z = (s.link z).setFault k { f with present := true, latched := true })
    ∧ t.sys = s.sys

/-! ## The channel of a group -/

/-- The channel of a group (R117, R118, R121): a zone has a batch at its site only while it holds its group's grant; a zone asks only
its own group, and only while its batch is CLOSED; a FREE group has no request. An OPEN batch leaves no ticket in its zone's
queues (R107). -/
def ChannelLaw (s : State) : Prop :=
  (∀ z : Zone, (s.zone z).site ≠ none → (s.group (s.zone z).homeGroup).state = .granted z)
    ∧ (∀ (g : GroupId) (z : Zone), ZoneSet.mem (s.group g).requests z = true →
        (s.zone z).homeGroup = g ∧ ∃ b, (s.zone z).making = some b ∧ b.closed = true)
    ∧ (∀ g : GroupId, (s.group g).state = .free → (s.group g).requests = 0)
    ∧ ∀ (z : Zone) (b : MakingBatch), (s.zone z).making = some b → b.closed = false → (s.zone z).queued = []

/-! ## Batches composed -/

/-- A batch takes tickets in turn from a zone's queues (R108): each is the ticket due, leaves its queue and fits, the batch holding
fewer than 32 tickets and at most 128 slots with it. The arguments are the batch so far, the zone, what is taken, and the zone left. -/
def TakesInTurn : List Ticket → ZoneRec → List Ticket → ZoneRec → Prop
  | _, r, [], left => left = r
  | batch, r, k :: more, left =>
    ∃ r', r.due = some (k, r') ∧ batch.length < 32 ∧ (batch.map (·.cost)).sum + k.cost ≤ 128
      ∧ TakesInTurn (batch ++ [k]) r' more left

/-- A zone's batch b, OPEN until now, has taken what the zone's queues offer and has been judged at a time (R108, R109): the queues
offer nothing more, or the ticket due does not fit; it is CLOSED by a ticket that does not fit, 32 tickets, 128 slots or the end of
the hold of its highest class. -/
def Composed (base : Nat) (b : MakingBatch) (r after : ZoneRec) : Prop :=
  ∃ (more : List Ticket) (left : ZoneRec) (closed : Bool), TakesInTurn b.tickets r more left ∧
    let tickets := b.tickets ++ more
    let slots := (tickets.map (·.cost)).sum
    let stuck := ∃ k r', left.due = some (k, r') ∧ ¬ (tickets.length < 32 ∧ slots + k.cost ≤ 128)
    let holds (c : PageClass) : Prop := ∃ k ∈ tickets, k.cls = c
    let ranOut := (holds .emergency ∧ b.opened ≤ base)
      ∨ (¬ holds .emergency ∧ holds .priority ∧ b.opened + b.priorityHold ≤ base)
      ∨ (¬ holds .emergency ∧ ¬ holds .priority ∧ b.opened + b.normalHold ≤ base)
    (left.due = none ∨ stuck)
      ∧ (closed = true ↔ stuck ∨ 32 ≤ tickets.length ∨ 128 ≤ slots ∨ ranOut)
      ∧ after = { left with making := some { b with tickets := tickets, closed := closed } }

/-- A zone's batch has been filled between two states (R107, R118): an OPEN batch, or a new one where the zone takes tickets, holds
some and has no OPEN or CLOSED batch, takes what the queues offer and is judged, a batch that closes placing the zone in its
group's request set; else nothing is changed. -/
def BatchFilled (s t : State) (z : Zone) : Prop :=
  let r := s.zone z
  let g := r.homeGroup
  let filled (b : MakingBatch) : Prop :=
    ∃ after c, Composed s.sys.base b r after ∧ after.making = some c
      ∧ (c.closed = false → t = s.setZone z after)
      ∧ (c.closed = true →
          t = (s.setZone z after).setGroup g { s.group g with requests := ZoneSet.add (s.group g).requests z })
  let opens := (r.state = .inService ∨ r.state = .settling) ∧ (r.emergency ≠ [] ∨ r.priority ≠ [] ∨ r.normal ≠ [])
  match r.making with
  | some b => if b.closed then t = s else filled b
  | none =>
    (opens → filled ⟨false, [], s.sys.base, s.sched.classes.priority.batchHold, s.sched.classes.normal.batchHold⟩)
      ∧ (¬ opens → t = s)

/-! ## Batches handed over and aired -/

/-- The link is in step: resync is not pending and the last reported TT equals ST (R131). -/
def InStep (l : LinkRec) : Prop := l.resyncPending = false ∧ ∃ x, l.last = some x ∧ x.tt = l.st

/-- The entries of a batch, in list order: each with the air address of its page's subscriber and the page's reference, body kind and
body (R110). -/
def EntriesOf (s : State) (tickets : List Ticket) (entries : List BatchEntry) : Prop :=
  entries.map (fun e => e.reference) = tickets.map (fun k => k.reference)
    ∧ ∀ e ∈ entries, ∃ p u q, s.page e.reference = some p ∧ s.sub p.subscriber = some u ∧ u.body = .pager q
        ∧ e = ⟨q.air, e.reference, p.bodyKind, p.body⟩

/-- The bytes of a BATCH frame (12.3). -/
def batchBytes (toggle : Bool) (number : BitVec 8) (entries : List BatchEntry) : List Byte :=
  siteFrame 0x01
    ([if toggle then 1 else 0, number] ++ be 1 entries.length
      ++ entries.flatMap fun e =>
          be 3 e.air ++ be 2 e.reference
            ++ (match e.kind with | .tone => 0 | .numeric => 1 | .alpha => 2) :: be 1 e.body.length ++ e.body)

/-- A zone has been granted its group's channel and its CLOSED batch handed to its link between two states (R121, R110, R131): it is
SENT with the next batch number; in step its frame goes on the line with the toggle opposite to ST, or behind a BATCH frame on it;
out of step the frame is withheld and a resync runs. The zone's next batch is then filled; nothing else is changed. -/
def HandedOver (s t : State) (z : Zone) (b : MakingBatch) (entries : List BatchEntry) : Prop :=
  let r := s.zone z
  let l := s.link z
  let g := r.homeGroup
  let handed (toggle : Option Bool) (l' : LinkRec) : State :=
    ((s.setGroup g
        { s.group g with state := .granted z, pointer := z, requests := ZoneSet.remove (s.group g).requests z }).setZone z
      { r with
        making := none, site := some ⟨false, b.tickets, b.opened, r.nextBatch, toggle⟩
        nextBatch := r.nextBatch + 1 }).setLink z l'
  (t.group g).state = .granted z ∧ (t.group g).pointer = z ∧ (t.zone z).nextBatch = r.nextBatch + 1
    ∧ (InStep l →
        BatchFilled
          (handed (some (!l.st))
            (if l.sendingBatch then
              { l with st := !l.st, batch := .sent, nextFrame := some (batchBytes (!l.st) r.nextBatch entries) }
            else
              { l with
                st := !l.st, batch := .sent, sendingBatch := true, tx := batchBytes (!l.st) r.nextBatch entries }))
          t z)
    ∧ (¬ InStep l →
        BatchFilled
          (handed none
            { l with
              batch := .withheld entries, resyncPending := true
              resync := if l.resyncPending then l.resync else some (s.sys.base + l.window * 1000) })
          t z)
    ∧ (∀ y : Zone, y ≠ z → t.zone y = s.zone y ∧ t.link y = s.link y)
    ∧ (∀ h : GroupId, h ≠ g → t.group h = s.group h)
    ∧ t = { s with
            dispatch := { s.dispatch with zones := t.dispatch.zones }, arbiter := t.arbiter
            sites := { s.sites with links := t.sites.links } }

/-- A zone's batch has been filled from a state, and a FREE group that finds the zone's request standing alone grants it at once (R107,
R118): the batch is handed over. -/
def FilledAndAsked (s t : State) (z : Zone) : Prop :=
  let g := (s.zone z).homeGroup
  ∃ u, BatchFilled s u z
    ∧ ((u.group g).state = .free → (u.group g).requests = ZoneSet.add 0 z →
        ∀ b entries, (u.zone z).making = some b → EntriesOf u b.tickets entries → HandedOver u t z b entries)
    ∧ ((u.group g).state ≠ .free ∨ (u.group g).requests = 0 → t = u)

/-- The tickets of a page in some list have been reported aired between two states (R50, R161, R162): a page with tickets left goes on;
with none left a TWO_WAY page awaits its acknowledgement, and a one-way page waits its repeat interval or is DELIVERED at its
repeats. -/
def ReportedAired (s t : State) (tickets : List Ticket) (n : Nat) : Prop :=
  ∀ p, s.page n = some p → p.state = .attempt → 0 < ticketsOf n tickets →
    let k := ticketsOf n tickets
    let aired := { p with ticketsOut := p.ticketsOut - k, aired := true, transmissions := min 255 (p.transmissions + k) }
    let c := s.params p.cls
    (k < p.ticketsOut → t.page n = some aired)
    ∧ ∀ u q, k = p.ticketsOut → s.sub p.subscriber = some u → u.body = .pager q →
      (q.kind = .twoWay → t.page n
        = some
            { aired with
              state := .awaitAck, retryDue := none, ackDeadline := some (min 4294967295999 (t.now + c.ackWindow * 1000)) })
      ∧ (q.kind ≠ .twoWay → p.attempts + 1 < c.oneWayRepeats → t.page n
        = some
            { aired with
              attempts := p.attempts + 1, state := .retryWait, ackDeadline := none
              retryDue := some (min 4294967295999 (t.now + c.repeatInterval * 1000)) })
      ∧ (q.kind ≠ .twoWay → c.oneWayRepeats ≤ p.attempts + 1 → t.page n = none
        ∧ ∃ x ∈ t.journal.records, x.account = p.account
            ∧ x.body = .outcome p.subscriber p.via n p.cls .delivered p.estimate p.body.length
                (min 255 (p.transmissions + k)) none)

/-! ## Admission -/

/-- The recipients of an ACTIVE record: itself, or a GROUP's ACTIVE members in their order (R4). -/
def recipientsOf (s : State) (i : Nat) (u : Subscriber) : List Nat :=
  match u.body with
  | .pager _ => [i]
  | .group members => members.filter fun m => match s.sub m with | some v => v.state == .active | none => false

/-- The via group of a page addressed to a record: the GROUP itself, or none (R4). -/
def viaOf (i : Nat) (u : Subscriber) : Option Nat := match u.body with | .pager _ => none | .group _ => some i

/-- A recipient takes a body of a kind and length (R2). -/
def Takes (s : State) (kind : BodyKind) (length : Nat) (i : Nat) : Prop :=
  ∃ v p, s.sub i = some v ∧ v.body = .pager p
    ∧ (if p.kind = .numeric then kind ≠ .alpha ∧ length ≤ 40 else length ≤ 240)

/-- The estimate of one page under a plan (R67; the started tens by log 42). -/
def estimateOf (plan : Plan) (cls : PageClass) (length : Nat) (u : Subscriber) : Nat :=
  (match u.body with | .pager _ => plan.page | .group _ => plan.member) + plan.perTen * ((length + 9) / 10)
    + (match cls with | .emergency => plan.emergencySurcharge | .priority => plan.prioritySurcharge | .normal => 0)

/-- The credit test passes for an amount (R68). -/
def CreditPasses (x : Account) (amount : Nat) : Prop :=
  match x.money with
  | .prepaid balance _ _ => (amount : Int) ≤ balance - x.reserved
  | .postpaid limit => x.periodCharged + x.reserved + amount ≤ limit

/-- Admission of a request for the record u at index q.index refuses it with a code: the checks of R46 in their order. -/
def Refuses (s : State) (q : Request) : ECode → Prop := fun e =>
  match s.sub q.index with
  | none => e = .e02
  | some u =>
    if u.state = .suspended then e = .e02
    else if recipientsOf s q.index u = [] then e = .e12
    else
      match s.account u.account with
      | none => e = .e03
      | some x =>
        (x.state = .suspended ∧ e = .e03)
          ∨ (x.state = .opened ∧ (∃ i ∈ recipientsOf s q.index u, ¬ Takes s q.kind q.text.length i) ∧ e = .e08)
          ∨ (x.state = .opened ∧ (∀ i ∈ recipientsOf s q.index u, Takes s q.kind q.text.length i)
              ∧ (1024 < s.store.pages.length + (recipientsOf s q.index u).length
                  ∨ 2048 < s.journal.records.length + s.store.pages.length + (recipientsOf s q.index u).length)
              ∧ e = .e09)
          ∨ (x.state = .opened ∧ (∀ i ∈ recipientsOf s q.index u, Takes s q.kind q.text.length i)
              ∧ s.store.pages.length + (recipientsOf s q.index u).length ≤ 1024
              ∧ s.journal.records.length + s.store.pages.length + (recipientsOf s q.index u).length ≤ 2048
              ∧ q.override = false
              ∧ (∃ plan, s.plan x.plan = some plan
                  ∧ ¬ CreditPasses x ((recipientsOf s q.index u).length * estimateOf plan q.cls q.text.length u))
              ∧ e = .e10)

/-- Admission accepts a request for the record u, with the account x and the plan charged: every check of R46 passes. -/
def Accepts (s : State) (q : Request) (u : Subscriber) (x : Account) (plan : Plan) : Prop :=
  s.sub q.index = some u ∧ u.state = .active ∧ recipientsOf s q.index u ≠ []
    ∧ s.account u.account = some x ∧ x.state = .opened ∧ s.plan x.plan = some plan
    ∧ (∀ i ∈ recipientsOf s q.index u, Takes s q.kind q.text.length i)
    ∧ s.store.pages.length + (recipientsOf s q.index u).length ≤ 1024
    ∧ s.journal.records.length + s.store.pages.length + (recipientsOf s q.index u).length ≤ 2048
    ∧ (q.override = true ∨ CreditPasses x ((recipientsOf s q.index u).length * estimateOf plan q.cls q.text.length u))

/-- References allocated in turn from the counter's value, with the counter's value afterwards: each is the first value from the
counter on that is neither 0 nor in use (R44). -/
def AllocatedInTurn (inUse : Nat → Prop) : BitVec 16 → List Nat → BitVec 16 → Prop
  | c, [], after => after = c
  | c, r :: rest, after =>
    ∃ d : BitVec 16, r = (c + d).toNat ∧ r ≠ 0 ∧ ¬ inUse r ∧ (∀ k < d, c + k = 0 ∨ inUse (c + k).toNat)
      ∧ AllocatedInTurn (fun x => x = r ∨ inUse x) (c + d + 1) rest after

/-- A reference is carried by a live page or a live ticket, orphans included (R44). -/
def State.InUse (s : State) (r : Nat) : Prop := s.page r ≠ none ∨ ∃ e ∈ s.liveTickets, e.2.reference = r

/-! ## Attempts -/

/-- The place of a zone in the order of an attempt: the zone of the last registration, the home zone, the others ascending (R158). -/
def searchRank (q : Pager) (z : Zone) : Nat :=
  if q.lastReg.map Prod.fst = some z then 0 else if z = q.home then 1 else 2 + z.val

/-- A zone is in the search set of a stage (R157). -/
def Sought (q : Pager) (stage : Nat) (z : Zone) : Prop :=
  if stage = 0 then z = (q.lastReg.map Prod.fst).getD q.home
  else if stage = 1 then z = q.home ∨ ZoneSet.mem q.roaming z = true ∨ q.lastReg.map Prod.fst = some z
  else True

/-- The target set of an attempt: the zones sought that take tickets, in order (R158). -/
def TargetSet (s : State) (q : Pager) (stage : Nat) (target : List Zone) : Prop :=
  (∀ z, z ∈ target ↔ Sought q stage z ∧ ((s.zone z).state = .inService ∨ (s.zone z).state = .settling))
    ∧ target.Pairwise fun a b => searchRank q a < searchRank q b

/-- An entry has been placed in a time-ordered list behind every entry of the same or an earlier time (R154). -/
def PlacedByTime (before after : List (Nat × Nat)) (due r : Nat) : Prop :=
  ∃ a b, before = a ++ b ∧ after = a ++ (due, r) :: b ∧ (∀ e ∈ a, e.1 ≤ due) ∧ ∀ e, b.head? = some e → due < e.1

/-- A page has gone to RETRY_WAIT a number of seconds from now (R154). -/
def WaitsForRetry (s t : State) (r : Nat) (p : Page) (seconds : Nat) : Prop :=
  let due := min 4294967295999 (s.now + seconds * 1000)
  t.page r = some { p with state := .retryWait, retryDue := some due, ackDeadline := none }
    ∧ PlacedByTime s.sched.retryDue t.sched.retryDue due r

/-- A page has taken its place in the ticket-wait list: an EMERGENCY page behind the EMERGENCY pages at its head, any other at the
tail (R104). -/
def EnteredTicketWait (s t : State) (r : Nat) (p : Page) : Prop :=
  let urgent (x : Nat) : Prop := ∃ y, s.page x = some y ∧ y.cls = .emergency
  ∃ a b, s.dispatch.ticketWait = a ++ b ∧ t.dispatch.ticketWait = a ++ r :: b
    ∧ (p.cls = .emergency → (∀ x ∈ a, urgent x) ∧ ∀ x, b.head? = some x → ¬ urgent x)
    ∧ (p.cls ≠ .emergency → b = [])

/-- An attempt has been started for the page p, of the pager q, between two states (R156 to R160, R102 to R104): with no zone to target the
page waits its retry base; a NORMAL page whose retry fell due waits one meter interval while every zone of its target set is congested;
in every case aired this attempt is set to no (R50; for a start that asks for no ticket or gets none the model's choice, log 52);
else it takes one ticket in each zone of the target set while the pool lasts, each offered at once to its zone's batch (what placing
does is said by BatchesTakeTicketsInTurn), or enters the ticket-wait list. -/
def AttemptStarted (s t : State) (r : Nat) (p : Page) (q : Pager) (byRetry : Bool) : Prop :=
  let stage := if q.kind = .twoWay then p.stage else 1
  let p' := { p with stage := stage, aired := false }
  ∃ target, TargetSet s q stage target
    ∧ (let congested := byRetry = true ∧ p.cls = .normal ∧ ∀ z ∈ target, (s.zoneMeter z).congested = true
      let placed := min target.length (2048 - s.liveTickets.length)
      let cost := match p.bodyKind with
        | .tone => 1
        | .numeric => 1 + (p.body.length + 9) / 10
        | .alpha => 1 + (p.body.length + 4) / 5
      (target = [] → WaitsForRetry s t r p' (s.params p.cls).retryBase ∧ t.dispatch = s.dispatch)
      ∧ (target ≠ [] → congested → WaitsForRetry s t r p' s.meter.interval ∧ t.dispatch = s.dispatch)
      ∧ (target ≠ [] → ¬ congested → t.sched.retryDue = s.sched.retryDue
          ∧ (placed = 0 → t.page r = some { p' with state := .waitTicket, retryDue := none, ackDeadline := none }
              ∧ EnteredTicketWait s t r p)
          ∧ (0 < placed →
              t.page r
                = some
                    { p' with state := .attempt, retryDue := none, ackDeadline := none, ticketsOut := placed }
              ∧ t.dispatch.ticketWait = s.dispatch.ticketWait
              ∧ (let u := (placeTickets (s.modifyPage r fun _ => p') ⟨r, p.cls, cost, false⟩ target).1
                t.dispatch.zones = u.dispatch.zones ∧ t.arbiter = u.arbiter ∧ t.sites = u.sites)
              ∧ (∀ z ∈ target.take placed, (⟨r, p.cls, cost, false⟩ : Ticket) ∈ (t.zone z).live)
              ∧ t.liveTickets.length = s.liveTickets.length + placed)))
    ∧ (∀ n, n ≠ r → t.page n = s.page n)
    ∧ t.sched.ackDeadline = s.sched.ackDeadline ∧ t.sched.expiry = s.sched.expiry ∧ t.sched.classes = s.sched.classes
    ∧ t.store.mailboxes = s.store.mailboxes ∧ t.dir = s.dir ∧ t.money = s.money ∧ t.journal = s.journal
    ∧ t.returns = s.returns ∧ t.meter = s.meter ∧ t.sys = s.sys ∧ t.port = s.port ∧ t.intake = s.intake

/-- Some pages have been taken in turn between two states, each as `one` says of the states before and after it. -/
def InTurn (one : Nat → State → State → Prop) : List Nat → State → State → Prop
  | [], s, t => t = s
  | r :: rest, s, t => ∃ m, one r s m ∧ InTurn one rest m t

/-- Attempt 0 of a page has been started between two states (R48): the page enters the expiry list and its attempt starts, without the
congestion test. -/
def FirstAttempt (r : Nat) (s t : State) : Prop :=
  ∃ p u q expiry, s.page r = some p ∧ s.sub p.subscriber = some u ∧ u.body = .pager q
    ∧ PlacedByTime s.sched.expiry expiry (p.expiry * 1000) r
    ∧ AttemptStarted (s.setSched { s.sched with expiry := expiry }) t r p q false

/-- A page of the ticket-wait list has been served between two states (R104): the pool held a ticket, the page leaves the list and its
attempt starts, without the congestion test. -/
def ServedAttempt (r : Nat) (s t : State) : Prop :=
  ∃ p u q, s.liveTickets.length < 2048 ∧ s.page r = some p ∧ s.sub p.subscriber = some u ∧ u.body = .pager q
    ∧ AttemptStarted
        (s.setDispatch { s.dispatch with ticketWait := s.dispatch.ticketWait.filter fun x => x != r }) t r p q false

/-- A page taken out of a mailbox has been released between two states (R57): attempts and stage are 0 and its attempt starts, without
the congestion test. -/
def ReleasedAttempt (r : Nat) (s t : State) : Prop :=
  ∃ p u q v, s.page r = some p ∧ s.sub p.subscriber = some u ∧ u.body = .pager q
    ∧ v = { s with store := { s.store with pages := v.store.pages } }
    ∧ v.page r = some { p with attempts := 0, stage := 0 } ∧ (∀ n, n ≠ r → v.page n = s.page n)
    ∧ AttemptStarted v t r { p with attempts := 0, stage := 0 } q false

/-! ## Pages admitted -/

/-- A page's record as admission writes it for one recipient (R47): what stays with the page, its estimate and fee frozen, no attempt
counted, nothing transmitted, its times set. -/
def WrittenByAdmission (s : State) (q : Request) (u : Subscriber) (plan : Plan) (i : Nat) (p : Page) : Prop :=
  p.subscriber = i ∧ p.via = viaOf q.index u ∧ p.account = u.account ∧ p.origin = q.origin ∧ p.cls = q.cls
    ∧ p.bodyKind = q.kind ∧ p.body = q.text ∧ p.override = q.override ∧ p.attempts = 0 ∧ p.transmissions = 0 ∧ p.aired = false
    ∧ p.estimate = estimateOf plan q.cls q.text.length u ∧ p.attemptFee = plan.attemptFee ∧ p.accepted = s.seconds
    ∧ p.expiry = min 4294967295 (s.seconds + (s.params q.cls).lifetime * 3600)

/-- A request has been admitted between two states (R44, R47, R48): one page for each recipient in order, with a reference allocated
in turn, its estimate and fee frozen and reserved, its times set, and, all of them written, the attempt 0 of each started in turn; no
other page, no other account and nothing of the blocks named last is changed. -/
def PagesAdmitted (s t : State) (q : Request) (u : Subscriber) (plan : Plan) (refs : List Nat) : Prop :=
  refs.length = (recipientsOf s q.index u).length
    ∧ AllocatedInTurn s.InUse s.store.refCounter refs t.store.refCounter
    ∧ (∃ b : State, b = { s with store := b.store, money := t.money }
        ∧ (∀ k i r : Nat, (recipientsOf s q.index u)[k]? = some i → refs[k]? = some r →
            ∃ p, b.page r = some p ∧ WrittenByAdmission s q u plan i p ∧ p.stage = 0 ∧ p.ticketsOut = 0)
        ∧ (∀ r, r ∉ refs → b.page r = s.page r)
        ∧ (ChannelLaw s → InTurn FirstAttempt refs b t))
    ∧ (∀ k i r : Nat, (recipientsOf s q.index u)[k]? = some i → refs[k]? = some r →
        ∃ p, t.page r = some p ∧ WrittenByAdmission s q u plan i p
          ∧ (p.state = .attempt ∨ p.state = .waitTicket ∨ p.state = .retryWait) ∧ (p.state ≠ .attempt → p.ticketsOut = 0)
          ∧ (p.expiry * 1000, r) ∈ t.sched.expiry)
    ∧ (∀ r, r ∉ refs → t.page r = s.page r)
    ∧ (∀ x, s.account u.account = some x →
        t.account u.account
          = some
              { x with
                reserved := x.reserved + refs.length * estimateOf plan q.cls q.text.length u
                livePages := x.livePages + refs.length })
    ∧ (∀ a, a ≠ u.account → t.account a = s.account a) ∧ t.money.plans = s.money.plans
    ∧ t.store.mailboxes = s.store.mailboxes ∧ t.sched.ackDeadline = s.sched.ackDeadline
    ∧ t.sched.classes = s.sched.classes ∧ t.dir = s.dir ∧ t.journal = s.journal ∧ t.returns = s.returns
    ∧ t.meter = s.meter ∧ t.sys = s.sys ∧ t.port = s.port ∧ t.intake = s.intake

/-! ## Intake lines -/

/-- A line can consume the byte c with its loss mark (R22). -/
def Consumable (s : State) (n : LineId) (c : Byte) (mark : Bool) : Prop :=
  s.port.mode = .running ∧ (s.line n).paused = false ∧ (s.line n).prompt = none
    ∧ (s.line n).ring.head? = some (c, mark)

/-- A line once a byte has left its ring: the read count advances, and HOLD is released at a fill of 256 or less (R19, R20). -/
def afterByte (l : Line) : Line :=
  { l with
    ring := l.ring.tail, read := l.read + 1
    hold := if (l.written - (l.read + 1)).toNat ≤ 256 then false else l.hold }

/-- A line that has been given a prompt and has taken a state: no timer runs, and the overrun latch is as told (R21, R25, R26). Its TXD holds
the whole token while the prompt is in progress (the model's choice, log 38). -/
def prompted (l : Line) (p : Prompt) (asm : Assembler) (latch : Bool) : Line :=
  { l with prompt := some p, txd := p.token, asm := asm, timer := none, waitLimit := none, overrunLatch := latch }

/-- A line leaves the console admission wait list; a line that becomes head by it retries in turn (R34, R35). -/
def LeftWait (s t : State) (n : LineId) : Prop :=
  t.intake.waitList = s.intake.waitList.filter (fun m => m != n)
    ∧ ∀ m more, s.intake.waitList = n :: more → t.intake.waitList.head? = some m → 0 < t.intake.announcements

/-- The admission request of an entry (R33). -/
def requestOf (n : LineId) (h : EntryHead) (text : List Byte) : Request :=
  ⟨h.index, h.cls, h.override, bodyKindOf text, text, .line n⟩

/-! ## Starts -/

/-- The notices of a start: STARTED, and JOURNAL-HIGH behind it while the records are at or above the level (R183, R94). -/
def startNotices (s : State) (cause : StartCause) : List Notice :=
  .started cause .valid s.sys.clock.isSome
    :: (if s.journal.level ≤ s.journal.records.length then
          [.journalHigh true s.journal.records.length s.journal.level]
        else [])

/-- A list of the scheduler holds exactly the pages with a time, oldest first and equal times in ascending order of reference
(R166). -/
def Rebuilt (l : List (Nat × Nat)) (pages : Table Page) (time : Page → Option Nat) : Prop :=
  (∀ e, e ∈ l ↔ ∃ p, Table.get pages e.2 = some p ∧ time p = some e.1)
    ∧ l.Pairwise fun a b => a.1 < b.1 ∨ (a.1 = b.1 ∧ a.2 < b.2)

/-- The part has started with a valid store between two states (R183; R42, R62, R94, R116, R127, R142, R149, R166, R174): it is in
STANDBY with its port empty but for the notices of the start; what the manual retains is kept; every page, zone, group, link and
meter is converted as its chapter says. -/
def Started (s t : State) (cause : StartCause) : Prop :=
  t.port = { mode := .standby, rx := .hunt, orders := [], slot := none, refusals := [], ready := [], sending := none
             notices := startNotices s cause, lost := 0, linkHold := s.port.linkHold, restart := .none
             silent := s.port.silent || cause == .powerUp }
    ∧ t.sys = { s.sys with lastCause := cause }
    ∧ t.dir = s.dir ∧ t.money = s.money ∧ t.returns = []
    ∧ t.intake.phrases = s.intake.phrases ∧ t.intake.waitList = []
    ∧ (∀ n : LineId, t.line n = { Line.initial with
          cls := (s.line n).cls, rate := (s.line n).rate, entryTimeout := (s.line n).entryTimeout
          idleTimeout := (s.line n).idleTimeout })
    ∧ t.store.mailboxes = s.store.mailboxes ∧ t.store.refCounter = s.store.refCounter
    ∧ (∀ r, t.page r
        = (s.page r).map fun p =>
            if p.state = .attempt ∨ p.state = .waitTicket then
              { p with state := .retryWait, retryDue := some s.now, ackDeadline := none, ticketsOut := 0, aired := false }
            else p)
    ∧ t.journal = { s.journal with high := decide (s.journal.level ≤ s.journal.records.length) }
    ∧ t.sched.classes = s.sched.classes
    ∧ (Table.wf s.store.pages →
        Rebuilt t.sched.retryDue t.store.pages (fun p => if p.state = .retryWait then p.retryDue else none)
        ∧ Rebuilt t.sched.ackDeadline t.store.pages (fun p => if p.state = .awaitAck then p.ackDeadline else none)
        ∧ Rebuilt t.sched.expiry t.store.pages (fun p => some (p.expiry * 1000)))
    ∧ t.dispatch.ticketWait = []
    ∧ (∀ z : Zone, t.zone z = { ZoneRec.initial with
          homeGroup := (s.zone z).homeGroup, drainTimeout := (s.zone z).drainTimeout
          settleWindow := (s.zone z).settleWindow
          state := match (s.zone z).state with
            | .inService | .settling | .faulted => .settling
            | .draining | .outOfService => .outOfService })
    ∧ (∀ g : GroupId, t.group g = { GroupRec.initial with guardTime := (s.group g).guardTime })
    ∧ (∀ z : Zone, t.link z = { LinkRec.initial with window := (s.link z).window, faults := (t.link z).faults }
        ∧ ∀ k, (t.link z).fault k = { (s.link z).fault k with present := false })
    ∧ t.sites.alarmA.map = s.sites.alarmA.map ∧ t.sites.alarmB.map = s.sites.alarmB.map
    ∧ (∀ z : Zone, t.zoneMeter z = { ZoneMeter.initial with
          threshold := (s.zoneMeter z).threshold, hysteresis := (s.zoneMeter z).hysteresis })
    ∧ t.meter = { s.meter with zones := t.meter.zones, timer := none, owing := [] }

/-! ## The laws -/

/-- The queues of the part hold no more than the manual gives them (R176, R177, R178, R150). -/
def QueuesBounded (s : State) : Prop :=
  s.port.orders.length ≤ 4 ∧ s.port.refusals.length ≤ 4 ∧ s.port.notices.length ≤ 64 ∧ s.port.lost ≤ 65535
    ∧ s.returns.length ≤ 64

/-- The answers that wait: one mark for the answer in the slot and one for each refusal, in the order in which they became ready;
an answer being sent is the earliest of them (R177, R179). -/
def AnswersOrdered (s : State) : Prop :=
  s.port.ready.count .slot = (if s.port.slot.isSome then 1 else 0)
    ∧ s.port.ready.count .refusal = s.port.refusals.length
    ∧ s.port.ready.count .notice = 0
    ∧ ∀ x, s.port.sending = some x → x.claim ≠ .notice → s.port.ready.head? = some x.claim

/-- A port that has begun no frame since its power-up has STARTED at the head of its notices, and sends it first (R184). -/
def SilentLaw (s : State) : Prop :=
  s.port.silent = true →
    s.port.sending = none ∧ ∃ cause store clock, s.port.notices.head? = some (.started cause store clock)

/-- The number-block table: every DEFINED entry in its ranges, and no two with a number or an index in common (R5). -/
def BlocksLaw (s : State) : Prop :=
  (∀ (e : Fin 8) (b : NumberBlock), s.dir.blocks[e] = some b →
    b.first ≤ 9999999 ∧ 1 ≤ b.count ∧ b.count ≤ 4096 ∧ b.index ≤ 4095 ∧ b.first + b.count ≤ 10000000
      ∧ b.index + b.count ≤ 4096)
  ∧ ∀ (e f : Fin 8) (b c : NumberBlock), e ≠ f → s.dir.blocks[e] = some b → s.dir.blocks[f] = some c →
    (b.first + b.count ≤ c.first ∨ c.first + c.count ≤ b.first)
      ∧ (b.index + b.count ≤ c.index ∨ c.index + c.count ≤ b.index)

/-- The air-address map holds one entry for each defined subscriber that has a pager, its address mapped to its index, and no
other entry (R7); both tables are in their canonical form. -/
def AirMapLaw (s : State) : Prop :=
  Table.wf s.dir.subs ∧ Table.wf s.dir.airMap
    ∧ ∀ air i, Table.get s.dir.airMap air = some i ↔
      ∃ u p, s.sub i = some u ∧ u.body = .pager p ∧ p.air = air

/-- A GROUP record whose members list names a subscriber. -/
def namesMember (i : Nat) (u : Subscriber) : Bool :=
  match u.body with
  | .pager _ => false
  | .group members => members.contains i

/-- The field constraints of every defined record (R1, R3): a roaming set of at most four zones without the home zone, hold and last
registration for TWO_WAY only, a GROUP's list of 1 to 16 distinct indexes of defined subscribers none of them a GROUP, and
memberships equal to the number of GROUP records whose list names the subscriber; the table is in its canonical form. -/
def SubscribersLaw (s : State) : Prop :=
  Table.wf s.dir.subs
    ∧ (∀ i u p, s.sub i = some u → u.body = .pager p →
        (ZoneSet.zones p.roaming).length ≤ 4 ∧ ZoneSet.mem p.roaming p.home = false
          ∧ (p.hold = true → p.kind = .twoWay) ∧ (p.lastReg ≠ none → p.kind = .twoWay)
          ∧ p.memberships = countWhere s.dir.subs (fun e => namesMember i e.2))
    ∧ ∀ i u members, s.sub i = some u → u.body = .group members →
        1 ≤ members.length ∧ members.length ≤ 16 ∧ members.Nodup ∧ i ∉ members
          ∧ ∀ m ∈ members, ∃ v p, s.sub m = some v ∧ v.body = .pager p

/-- There are never more than 1024 live pages, and the records with the live pages never exceed 2048 (R43, R86); the page table
is in its canonical form. -/
def SlotLaw (s : State) : Prop :=
  Table.wf s.store.pages ∧ s.store.pages.length ≤ 1024 ∧ s.journal.records.length + s.store.pages.length ≤ 2048

/-- The records held carry consecutive numbers, the newest one less than the next sequence number (R85), and the JOURNAL-HIGH
condition is set exactly while the records are at or above the level (R89). -/
def JournalLaw (s : State) : Prop :=
  s.journal.records.map (·.seq)
      = (List.range s.journal.records.length).map
          (fun k => s.journal.nextSeq - BitVec.ofNat 32 (s.journal.records.length - k))
    ∧ (s.journal.high = true ↔ s.journal.level ≤ s.journal.records.length)
    ∧ 1 ≤ s.journal.level ∧ s.journal.level ≤ 2048

/-- One line in a part that is in RUNNING or not: the ring holds what its counts say, at most 512 bytes; HOLD is asserted at 410
and above, and in RUNNING never at 256 or below; in STANDBY the line is CLOSED with an empty ring and HOLD asserted; TXD
carries the whole token of the prompt in progress, and nothing without one (R19, R20, R25, R38, R42; what TXD holds is the model's
choice, log 38). -/
def LineLaw (running : Bool) (l : Line) : Prop :=
  l.ring.length = (l.written - l.read).toNat ∧ l.ring.length ≤ 512
    ∧ (410 ≤ l.ring.length → l.hold = true)
    ∧ (running = true → l.hold = true → 257 ≤ l.ring.length)
    ∧ l.txd = (match l.prompt with | none => [] | some p => p.token)
    ∧ (running = false →
        l.ring = [] ∧ l.hold = true ∧ l.asm = .closed ∧ l.prompt = none ∧ l.timer = none ∧ l.waitLimit = none)

/-- Every intake line keeps its law. -/
def LinesLaw (s : State) : Prop := ∀ n : LineId, LineLaw s.running (s.line n)

/-- A zone that takes no tickets holds no QUEUED ticket and no OPEN or CLOSED batch, and a FAULTED or OUT_OF_SERVICE zone holds no
batch at all (R95). -/
def ZonesLaw (s : State) : Prop :=
  ∀ z : Zone,
    ((s.zone z).state.takesTickets = false →
      (s.zone z).emergency = [] ∧ (s.zone z).priority = [] ∧ (s.zone z).normal = [] ∧ (s.zone z).making = none)
    ∧ ((s.zone z).state = .faulted ∨ (s.zone z).state = .outOfService → (s.zone z).site = none)

/-- There are never more than 2048 live tickets (R102). -/
def TicketsLaw (s : State) : Prop := s.liveTickets.length ≤ 2048

/-- Each alarm output is asserted exactly while a latched flag of a kind in its map is set in some zone, or JOURNAL-HIGH is in its map
and the condition is set (R142). -/
def AlarmsLaw (s : State) : Prop :=
  let asked (map : BitVec 6) : Prop :=
    (∃ (z : Zone) (k : FaultKind), map.getLsbD k.code.toNat = true ∧ ((s.link z).fault k).latched = true)
      ∨ (map.getLsbD 5 = true ∧ s.journal.high = true)
  (s.sites.alarmA.asserted = true ↔ asked s.sites.alarmA.map) ∧ (s.sites.alarmB.asserted = true ↔ asked s.sites.alarmB.map)

/-- The batch at a link is the batch the zone has at its site (R128, R131, R132): withheld, without a toggle and with resync pending,
its entries those of the batch's tickets in order; SENT or ON_AIR, with the toggle ST. The take timeout runs for a batch SENT only
(R133). In STANDBY a link is as a start leaves it but for its window and fault kinds, and the zone holds no ticket (R116, R149). -/
def LinksLaw (s : State) : Prop :=
  ∀ z : Zone,
    let l := s.link z
    (match l.batch with
      | .none => (s.zone z).site = none
      | .withheld entries => l.resyncPending = true ∧ ∃ b, (s.zone z).site = some b ∧ b.onAir = false ∧ b.toggle = none
          ∧ entries.map (·.reference) = b.tickets.map (·.reference)
      | .sent => ∃ b, (s.zone z).site = some b ∧ b.onAir = false ∧ b.toggle = some l.st
      | .onAir => ∃ b, (s.zone z).site = some b ∧ b.onAir = true ∧ b.toggle = some l.st)
    ∧ (l.take ≠ none → l.batch = .sent)
    ∧ (s.port.mode = .standby →
        l = { LinkRec.initial with window := l.window, faults := l.faults }
          ∧ (s.zone z).making = none ∧ (s.zone z).queued = [])

/-- The fault kinds of a zone agree with its state (R96, R97, R100, R139): LINK_LOST and CARRIER_STUCK take the zone out; a zone in service,
in SETTLING or DRAINING has no take-out condition, and a FAULTED zone has one; in SETTLING FWD-POWER-LOW is not present (R140); the
carrier timer does not run while CARRIER_STUCK is present (R134). -/
def FaultsLaw (s : State) : Prop :=
  ∀ z : Zone,
    let l := s.link z
    (l.fault .linkLost).takeOut = true ∧ (l.fault .carrierStuck).takeOut = true
    ∧ ((s.zone z).state = .inService ∨ (s.zone z).state = .settling ∨ (s.zone z).state = .draining → ¬ TakeOutAt s z)
    ∧ ((s.zone z).state = .faulted → TakeOutAt s z)
    ∧ ((s.zone z).state = .settling → (l.fault .fwdPowerLow).present = false)
    ∧ ((l.fault .carrierStuck).present = true → l.carrier = none)

/-- A time-ordered list of the scheduler holds exactly the live pages with a time, each once (R154). -/
def ListHolds (s : State) (l : List (Nat × Nat)) (time : Page → Option Nat) : Prop :=
  (∀ e, e ∈ l ↔ ∃ p, s.page e.2 = some p ∧ time p = some e.1)
    ∧ l.Pairwise (fun a b => a.1 ≤ b.1) ∧ (l.map Prod.snd).Nodup

/-- The lists of the part hold exactly the pages of their states: the retry-due list those in RETRY_WAIT, the ack-deadline list those in
AWAIT_ACK, the expiry list every live page (R154); the ticket-wait list those in WAIT_TICKET (R104); the mailbox of a subscriber,
of eight places, its pages HELD (R57). Every live page's subscriber is a defined pager (R14, R43). -/
def ListsLaw (s : State) : Prop :=
  ListHolds s s.sched.retryDue (fun p => if p.state = .retryWait then p.retryDue else none)
    ∧ ListHolds s s.sched.ackDeadline (fun p => if p.state = .awaitAck then p.ackDeadline else none)
    ∧ ListHolds s s.sched.expiry (fun p => some (p.expiry * 1000))
    ∧ (∀ r p, s.page r = some p →
        (p.state = .retryWait → p.retryDue ≠ none) ∧ (p.state = .awaitAck → p.ackDeadline ≠ none)
          ∧ ∃ u q, s.sub p.subscriber = some u ∧ u.body = .pager q)
    ∧ s.dispatch.ticketWait.Nodup
    ∧ (∀ r, r ∈ s.dispatch.ticketWait ↔ ∃ p, s.page r = some p ∧ p.state = .waitTicket)
    ∧ Table.wf s.store.mailboxes ∧ (∀ i, Table.get s.store.mailboxes i ≠ some [])
    ∧ (∀ i, (s.mailbox i).length ≤ 8 ∧ (s.mailbox i).Nodup)
    ∧ ∀ i r, r ∈ s.mailbox i ↔ ∃ p, s.page r = some p ∧ p.state = .held ∧ p.subscriber = i

/-- The live tickets of a page, orphans apart, and the page agree (R50, R102, R105): every such ticket's page is live and in ATTEMPT; a page in
ATTEMPT has one in some zone, at most one in each, and counts them; a page in any other state counts none. An orphan is at a site,
and carries the reference of no live page (R44, R53). -/
def TicketPagesLaw (s : State) : Prop :=
  (∀ (z : Zone), ∀ k ∈ (s.zone z).live, k.orphan = false → ∃ p, s.page k.reference = some p ∧ p.state = .attempt)
    ∧ (∀ (z : Zone), ∀ k ∈ (s.zone z).live, k.orphan = true → k ∈ (s.zone z).atSite ∧ s.page k.reference = none)
    ∧ (∀ z : Zone, ∀ k ∈ (s.zone z).unsent, k.orphan = false)
    ∧ (∀ (z : Zone) (r : Nat), ticketsOf r (s.zone z).live ≤ 1)
    ∧ ∀ r p, s.page r = some p →
        (p.state = .attempt →
          0 < p.ticketsOut ∧ p.ticketsOut = (allZones.map fun z => ticketsOf r (s.zone z).live).sum)
        ∧ (p.state ≠ .attempt → p.ticketsOut = 0)

/-- The live pages of an account. -/
def pagesOfAccount (pages : Table Page) (a : Nat) : List (Nat × Page) := pages.filter fun e => e.2.account == a

/-- For every account, the reserved total is the sum of the frozen estimates of its live pages, and its live pages are their number;
every live page's account is defined (R69, R64); both tables are in their canonical form. -/
def ReservationsLaw (s : State) : Prop :=
  Table.wf s.store.pages ∧ Table.wf s.money.accounts
    ∧ (∀ r p, s.page r = some p → s.account p.account ≠ none)
    ∧ ∀ a x, s.account a = some x →
        x.reserved = ((pagesOfAccount s.store.pages a).map fun e => e.2.estimate).sum
          ∧ x.livePages = (pagesOfAccount s.store.pages a).length

/-- The office clock never passes its last value (R180). -/
def ClockLaw (s : State) : Prop := ∀ t, s.sys.clock = some t → t ≤ 4294967295999

end Sys2Proof.Machine
end

