-- ==== Sys2Proof/Certificates/Slice0/Obligations.lean ====
section
/-! DEFINITION. Certificates/Slice0/Obligations.lean: the statements for the provers. Each says from which states and operands a
command completes, and exactly what state it leaves; a block that is not named in the state it leaves is unchanged. `taken` and
`answered` (Safety.lean) are the two ends of every order; what `answered` leaves is a statement of its own. -/

section Statements

open Sys2Proof Sys2Proof.Machine

/-! ## The block as a whole -/

/-- A step with a command at the front of the queue is the meaning of that command on the queue's rest. Every command ends in a
next state, in every state of the part, and leaves the commands waiting behind it as they are; that a command whose event cannot
happen in the state it finds ends in a next state too is the model's choice (log 4). A step with no command waiting lets one
millisecond pass (the model's choice, log 3): the time base advances, a SET clock advances up to its last value (R180), and nothing
else changes. -/
def Obligations.StepTakesTheFrontCommand : Prop :=
  (
    ∀ (s : State) (c : Instr) (rest : List Instr), step (s.setPending (c :: rest)) = exec c (s.setPending rest))
  ∧ (
    ∀ (c : Instr) (s : State), ∃ t, exec c s = .next t ∧ t.pending = s.pending)
  ∧ (
    ∀ s : State, s.pending = [] →
      step s = .next (s.setSys
        { s.sys with base := s.sys.base + 1, clock := s.sys.clock.map fun t => min (t + 1) 4294967295999 }))

/-- The part after reset is the part after its first power-up with an empty store: the values the manual gives for it, and, as the
model's choices, the moment of log 1 (STARTED on the output line) and for the inputs and the time base the values of log 2:
LINK-HOLD high, the office link rate 115200 bit/s, the time base 0. No link has sent a frame and no line a token. -/
def Obligations.ResetIsTheFirstPowerUp : Prop :=
  let s := State.reset
  s.pending = [] ∧ s.port.mode = .standby ∧ s.port.orders = [] ∧ s.port.slot = none ∧ s.port.refusals = []
    ∧ s.port.ready = [] ∧ s.port.notices = [] ∧ s.port.lost = 0 ∧ s.port.rx = .hunt ∧ s.port.restart = .none
    ∧ s.port.linkHold = true ∧ s.port.silent = false
    ∧ s.port.sending = some ⟨.notice, officeFrame 0xC3 0 [0x00, 0x00, 0x00]⟩
    ∧ s.sys = { base := 0, clock := none, retention := true, rate := .r115200, storeFound := .empty, lastCause := .powerUp }
    ∧ s.dir.subs = [] ∧ (∀ e : Fin 8, s.dir.blocks[e] = none) ∧ s.dir.airMap = []
    ∧ s.store.pages = [] ∧ s.store.mailboxes = [] ∧ s.store.refCounter = 1
    ∧ s.money.accounts = [] ∧ s.money.plans = [] ∧ s.returns = []
    ∧ s.journal.records = [] ∧ s.journal.nextSeq = 1 ∧ s.journal.level = 1792 ∧ s.journal.high = false
    ∧ s.sched.retryDue = [] ∧ s.sched.ackDeadline = [] ∧ s.sched.expiry = []
    ∧ s.sched.classes.emergency = ⟨20, 10, 120, 15, 24, 3, 60, 0, false⟩
    ∧ s.sched.classes.priority = ⟨30, 30, 600, 10, 48, 2, 120, 200, false⟩
    ∧ s.sched.classes.normal = ⟨60, 60, 1800, 6, 72, 1, 300, 1000, false⟩
    ∧ (∀ n : LineId, s.line n
        = { cls := .caller, rate := 9600, entryTimeout := 15, idleTimeout := 30, ring := [], written := 0, read := 0
            hold := true, overrunNoticed := false, asm := .closed, overrunLatch := false, paused := false
            prompt := none, txd := [], timer := none, waitLimit := none })
    ∧ s.intake.phrases = [] ∧ s.intake.waitList = [] ∧ s.intake.announcements = 0
    ∧ s.dispatch.ticketWait = [] ∧ s.pool = 2048
    ∧ (∀ z : Zone, s.zone z
        = { state := .outOfService, homeGroup := 0, drainTimeout := 10, settleWindow := 5, emergency := [], priority := []
            normal := [], making := none, site := none, drainTimer := none, pattern := 0, nextBatch := 0 })
    ∧ (∀ g : GroupId, s.group g = { state := .free, pointer := 0, requests := 0, guardTime := 0 })
    ∧ (∀ z : Zone, s.link z
          = { st := false, ra := none, last := none, resyncPending := true, batch := .none, silence := none, resync := none
              take := none, carrier := none, settle := none, discarded := 0, window := 3, faults := (s.link z).faults
              rx := .hunt, pollDue := none, pollWaiting := false, sendingBatch := false, nextFrame := none, tx := [] }
        ∧ ∀ k : FaultKind, (s.link z).fault k = ⟨false, false, decide (k = .linkLost ∨ k = .carrierStuck), false⟩)
    ∧ s.sites.alarmA = ⟨0, false⟩ ∧ s.sites.alarmB = ⟨0, false⟩
    ∧ s.meter.enabled = false ∧ s.meter.interval = 5 ∧ s.meter.weight = 3 ∧ s.meter.timer = none ∧ s.meter.owing = []
    ∧ ∀ z : Zone, s.zoneMeter z
        = { threshold := 120, hysteresis := 20, count := 0, sample := 0, peak := 0, average := 0, congested := false }
/-! ## Orders and answers -/

/-- An order that can be executed is executed whole by the row of its kind, and answered; a refused order changes nothing
else (R8, R176, R177). An order row that finds the queue empty, or the answer slot still taken, or a start due, changes
nothing (R176, R183; log 4, log 8). An order whose body is not of the length its kind calls for, or whose counted text or list
does not fill the body, or whose text is too long, is answered BAD-FORM (R8, R187, R188; of the lengths, the sizes of some fields rest on
logs 10, 13, 40, 47 and 54). Which of two rows that share a kind runs an order, malformed ones included, is the model's choice (log 5). -/
def Obligations.OrdersAreExecutedAndAnswered : Prop :=
  (
    ∀ (c : Instr) (s : State) (kind tag : Byte) (body : List Byte) (rest : List Order),
      OrderAt s kind tag body rest → runsOrder c ⟨kind, tag, body⟩ = true →
        ∃ t r, exec c s = answered t kind tag r ∧ ((∀ fields, r ≠ .done fields) → t = taken s rest))
  ∧ (
    ∀ (c : Instr) (s : State), (∃ o, runsOrder c o = true) →
      s.port.orders = [] ∨ s.port.slot ≠ none ∨ s.port.restart = .due → exec c s = .next s)
  ∧ (
    ∀ (c : Instr) (length : Nat) (s : State) (kind tag : Byte) (body : List Byte) (rest : List Order),
      OrderAt s kind tag body rest → runsOrder c ⟨kind, tag, body⟩ = true →
      ((c, length) ∈ fixedLengths → body.length ≠ length → exec c s = answered (taken s rest) kind tag .badForm)
      ∧ (c = .classConfigWrite → body.length ≠ 14 → exec c s = answered (taken s rest) kind tag .badForm)
      ∧ ∀ fixed entry most, (c, fixed, entry, most) ∈ countedLengths → ¬ Counted body fixed entry most →
          exec c s = answered (taken s rest) kind tag .badForm)

/-! ## Subscriber Directory orders -/

/-- BLOCK-DEFINE writes an entry whose ranges are kept and which overlaps no other DEFINED entry, and refuses any other with
BAD-VALUE; BLOCK-CLEAR makes a DEFINED entry UNDEFINED and refuses an UNDEFINED one with UNKNOWN; an entry number out of
range is BAD-VALUE (R9, R10). -/
def Obligations.BlockOrdersWriteTheNumberPlan : Prop :=
  (∀ (s : State) (tag : Byte) (rest : List Order) (x : Nat) (fields : List Nat), 8 ≤ x → x < 256 →
    (OrderAt s 0x01 tag (writeFields [1, 4, 2, 2] (x :: fields)) rest → fields.length = 3 →
      exec .blockDefine s = answered (taken s rest) 0x01 tag .badValue)
    ∧ (OrderAt s 0x02 tag (writeFields [1] [x]) rest → exec .blockClear s = answered (taken s rest) 0x02 tag .badValue))
  ∧ ∀ (s : State) (tag : Byte) (rest : List Order) (e : Fin 8),
    (∀ first count index : Nat, first < 4294967296 → count < 65536 → index < 65536 →
      OrderAt s 0x01 tag (writeFields [1, 4, 2, 2] [e.val, first, count, index]) rest →
      let fits := first ≤ 9999999 ∧ 1 ≤ count ∧ count ≤ 4096 ∧ index ≤ 4095 ∧ first + count ≤ 10000000
        ∧ index + count ≤ 4096 ∧ ∀ (f : Fin 8) (b : NumberBlock), f ≠ e → s.dir.blocks[f] = some b →
          (first + count ≤ b.first ∨ b.first + b.count ≤ first) ∧ (index + count ≤ b.index ∨ b.index + b.count ≤ index)
      (fits → exec .blockDefine s
        = answered ((taken s rest).setDir { s.dir with blocks := s.dir.blocks.set e (some ⟨first, count, index⟩) })
            0x01 tag (.done []))
      ∧ (¬ fits → exec .blockDefine s = answered (taken s rest) 0x01 tag .badValue))
    ∧ (OrderAt s 0x02 tag (writeFields [1] [e.val]) rest →
      (s.dir.blocks[e] ≠ none → exec .blockClear s
        = answered ((taken s rest).setDir { s.dir with blocks := s.dir.blocks.set e none }) 0x02 tag (.done []))
      ∧ (s.dir.blocks[e] = none → exec .blockClear s = answered (taken s rest) 0x02 tag .unknown))
/-- SUB-DEFINE of a NUMERIC, ALPHA or TWO_WAY subscriber at a FREE index, with a defined account and an air address not in
the map: the record, the map entry and the account's count of references are written, and nothing else; an account FREE is
UNKNOWN, a target not FREE is STATE, an address in the map is IN-USE, in that order (R11). SUB-DEFINE of a GROUP of 1 to 16
defined subscribers, none of them a GROUP, at a FREE index with a defined account: the record is written, each member's
memberships count and the account's count of references rise by one, and nothing else changes; a FREE account or member is
UNKNOWN, a target not FREE is STATE, a member that is a GROUP is BAD-VALUE (R11, R3). Fields of any other form are BAD-VALUE
(R11, R187; the layout is the model's reading, log 10; that a NUMERIC or ALPHA record carries hold enabled with presence 01h is its
choice, log 47). -/
def Obligations.SubDefineWritesARecord : Prop :=
  (
    ∀ (s : State) (tag : Byte) (rest : List Order)
      (i kind account cls pAir air pHome home pRoam roam pHold hold pMembers : Nat) (members : List Nat),
      i < 65536 → kind < 256 → account < 65536 → cls < 256 → pAir < 256 → air < 16777216 → pHome < 256 → home < 256 →
      pRoam < 256 → roam < 256 → pHold < 256 → hold < 256 → pMembers < 256 → members.length < 256 →
      (∀ m ∈ members, m < 65536) →
      OrderAt s 0x03 tag
        (writeFields [2, 1, 2, 1, 1, 3, 1, 1, 1, 1, 1, 1, 1]
            [i, kind, account, cls, pAir, air, pHome, home, pRoam, roam, pHold, hold, pMembers]
          ++ (be 1 members.length ++ members.flatMap (be 2))) rest →
      let pager := kind ≤ 2 ∧ pAir = 1 ∧ air ≤ 4194303 ∧ pHome = 1 ∧ home ≤ 7 ∧ pRoam = 1
        ∧ (ZoneSet.zones (BitVec.ofNat 8 roam)).length ≤ 4 ∧ roam.testBit home = false ∧ pHold = 1 ∧ hold ≤ 1
        ∧ (hold = 1 → kind = 2) ∧ pMembers = 0
      let group := kind = 3 ∧ pAir = 0 ∧ pHome = 0 ∧ pRoam = 0 ∧ pHold = 0 ∧ pMembers = 1 ∧ 1 ≤ members.length
        ∧ members.length ≤ 16 ∧ members.Nodup ∧ (∀ m ∈ members, m ≤ 4095) ∧ i ∉ members
      ¬ (i ≤ 4095 ∧ account ≤ 1023 ∧ (cls = 1 ∨ cls = 2) ∧ (pager ∨ group)) →
      exec .subDefine s = answered (taken s rest) 0x03 tag .badValue)
  ∧
  (
    ∀ (s : State) (tag : Byte) (rest : List Order) (kind : PagerKind) (cls : PageClass) (home : Zone) (roam : ZoneSet)
      (hold : Bool) (i account air : Nat) (extra : List Nat),
      i ≤ 4095 → account ≤ 1023 → air ≤ 4194303 → cls ≠ .emergency → (ZoneSet.zones roam).length ≤ 4 →
      ZoneSet.mem roam home = false → (hold = true → kind = .twoWay) → extra.length < 256 → (∀ x ∈ extra, x < 65536) →
      OrderAt s 0x03 tag
        (writeFields [2, 1, 2, 1, 1, 3, 1, 1, 1, 1, 1, 1, 1]
            [i, kindNumber kind, account,
              classNumber cls, 1, air, 1, home.val, 1, roam.toNat, 1,
              (if hold then 1 else 0), 0]
          ++ (be 1 extra.length ++ extra.flatMap (be 2))) rest →
      let u : Subscriber := ⟨.active, account, cls, .pager ⟨kind, air, home, roam, hold, none, 0⟩⟩
      (s.account account ≠ none → s.sub i = none → Table.get s.dir.airMap air = none →
        exec .subDefine s
          = answered
              (((taken s rest).setDir
                  { s.dir with subs := Table.set s.dir.subs i u, airMap := Table.set s.dir.airMap air i }).modifyAccount account
                fun a => { a with subRefs := a.subRefs + 1 })
              0x03 tag (.done []))
      ∧ (s.account account = none → exec .subDefine s = answered (taken s rest) 0x03 tag .unknown)
      ∧ (s.account account ≠ none → s.sub i ≠ none → exec .subDefine s = answered (taken s rest) 0x03 tag .state)
      ∧ (s.account account ≠ none → s.sub i = none → Table.get s.dir.airMap air ≠ none →
          exec .subDefine s = answered (taken s rest) 0x03 tag .inUse))
  ∧ (
    ∀ (s : State) (tag : Byte) (rest : List Order) (cls : PageClass) (i account : Nat) (members : List Nat)
      (x1 x2 x3 x4 : Nat),
      i ≤ 4095 → account ≤ 1023 → cls ≠ .emergency → 1 ≤ members.length → members.length ≤ 16 → members.Nodup →
      (∀ m ∈ members, m ≤ 4095) → i ∉ members → x1 < 16777216 → x2 < 256 → x3 < 256 → x4 < 256 →
      OrderAt s 0x03 tag
        (writeFields [2, 1, 2, 1, 1, 3, 1, 1, 1, 1, 1, 1, 1]
            [i, 3, account, classNumber cls, 0, x1, 0, x2, 0, x3, 0, x4, 1]
          ++ (be 1 members.length ++ members.flatMap (be 2))) rest →
      (s.account account ≠ none → (∀ m ∈ members, ∃ u p, s.sub m = some u ∧ u.body = .pager p) → s.sub i = none →
        ∃ subs,
          exec .subDefine s
            = answered
                (((taken s rest).setDir { s.dir with subs := subs }).modifyAccount account
                  fun a => { a with subRefs := a.subRefs + 1 })
                0x03 tag (.done [])
          ∧ Table.get subs i = some ⟨.active, account, cls, .group members⟩
          ∧ (∀ m ∈ members, ∀ u p, s.sub m = some u → u.body = .pager p →
              Table.get subs m = some { u with body := .pager { p with memberships := p.memberships + 1 } })
          ∧ ∀ j, j ≠ i → j ∉ members → Table.get subs j = s.sub j)
      ∧ (s.account account = none ∨ (∃ m ∈ members, s.sub m = none) →
          exec .subDefine s = answered (taken s rest) 0x03 tag .unknown)
      ∧ (s.account account ≠ none → (∀ m ∈ members, s.sub m ≠ none) → s.sub i ≠ none →
          exec .subDefine s = answered (taken s rest) 0x03 tag .state)
      ∧ (s.account account ≠ none → (∀ m ∈ members, s.sub m ≠ none) → s.sub i = none →
          (∃ m ∈ members, ∃ u l, s.sub m = some u ∧ u.body = .group l) →
          exec .subDefine s = answered (taken s rest) 0x03 tag .badValue))

/-- SUB-ALTER of a pager writes the new fields, moves the map entry and removes the last registration when the address changes,
and moves the reference when the account changes; a new address in the map, or for a subscriber with live pages, is IN-USE.
SUB-ALTER of a GROUP writes account and default class (R12). An index out of range is BAD-VALUE, a FREE record UNKNOWN, fields
of any other form than the target's kind calls for BAD-VALUE (R12, R187; the layout is the model's reading, log 10; that a NUMERIC or
ALPHA target takes hold enabled with presence 01h is its choice, log 47). -/
def Obligations.SubAlterWritesTheNewFields : Prop :=
  (∀ (s : State) (tag : Byte) (rest : List Order) (i pAir air account cls pHome home pRoam roam pHold hold : Nat),
    i < 65536 → pAir < 256 → air < 16777216 → account < 65536 → cls < 256 → pHome < 256 → home < 256 → pRoam < 256 →
    roam < 256 → pHold < 256 → hold < 256 →
    OrderAt s 0x04 tag
      (writeFields [2, 1, 3, 2, 1, 1, 1, 1, 1, 1, 1] [i, pAir, air, account, cls, pHome, home, pRoam, roam, pHold, hold])
      rest →
    (4095 < i → exec .subAlter s = answered (taken s rest) 0x04 tag .badValue)
    ∧ (i ≤ 4095 → s.sub i = none → exec .subAlter s = answered (taken s rest) 0x04 tag .unknown)
    ∧ ∀ u, i ≤ 4095 → s.sub i = some u →
      let fits := match u.body with
        | .pager p => pAir = 1 ∧ air ≤ 4194303 ∧ pHome = 1 ∧ home ≤ 7 ∧ pRoam = 1
            ∧ (ZoneSet.zones (BitVec.ofNat 8 roam)).length ≤ 4 ∧ roam.testBit home = false ∧ pHold = 1 ∧ hold ≤ 1
            ∧ (hold = 1 → p.kind = .twoWay)
        | .group _ => pAir = 0 ∧ pHome = 0 ∧ pRoam = 0 ∧ pHold = 0
      ¬ (account ≤ 1023 ∧ (cls = 1 ∨ cls = 2) ∧ fits) →
      exec .subAlter s = answered (taken s rest) 0x04 tag .badValue)
  ∧ ∀ (s : State) (tag : Byte) (rest : List Order) (cls : PageClass) (i account : Nat) (u : Subscriber),
    i ≤ 4095 → account ≤ 1023 → cls ≠ .emergency → s.sub i = some u →
    let clsCode := classNumber cls
    let moved (t : State) : State :=
      if u.account = account then t
      else
        (t.modifyAccount u.account fun a => { a with subRefs := a.subRefs - 1 }).modifyAccount account
          fun a => { a with subRefs := a.subRefs + 1 }
    (∀ (p : Pager) (home : Zone) (roam : ZoneSet) (hold : Bool) (air : Nat), u.body = .pager p → air ≤ 4194303 →
      (ZoneSet.zones roam).length ≤ 4 → ZoneSet.mem roam home = false → (hold = true → p.kind = .twoWay) →
      OrderAt s 0x04 tag
        (writeFields [2, 1, 3, 2, 1, 1, 1, 1, 1, 1, 1]
          [i, 1, air, account, clsCode, 1, home.val, 1, roam.toNat, 1, (if hold then 1 else 0)]) rest →
      let p' : Pager :=
        { p with air := air, home := home, roaming := roam, hold := hold
                 lastReg := if air = p.air then p.lastReg else none }
      (s.account account ≠ none → (air = p.air ∨ (Table.get s.dir.airMap air = none ∧ ∀ e ∈ s.store.pages, e.2.subscriber ≠ i)) →
        exec .subAlter s
          = answered
              (moved
                ((taken s rest).setDir
                  { s.dir with
                    subs := Table.set s.dir.subs i { u with account := account, defaultClass := cls, body := .pager p' }
                    airMap :=
                      if air = p.air then s.dir.airMap
                      else Table.set (Table.erase s.dir.airMap p.air) air i }))
              0x04 tag (.done []))
      ∧ (s.account account = none → exec .subAlter s = answered (taken s rest) 0x04 tag .unknown)
      ∧ (s.account account ≠ none → air ≠ p.air →
          (Table.get s.dir.airMap air ≠ none ∨ ∃ e ∈ s.store.pages, e.2.subscriber = i) →
          exec .subAlter s = answered (taken s rest) 0x04 tag .inUse))
    ∧ ∀ (members : List Nat) (x1 x2 x3 x4 : Nat), u.body = .group members → x1 < 16777216 → x2 < 256 → x3 < 256 → x4 < 256 →
      OrderAt s 0x04 tag
        (writeFields [2, 1, 3, 2, 1, 1, 1, 1, 1, 1, 1] [i, 0, x1, account, clsCode, 0, x2, 0, x3, 0, x4]) rest →
      (s.account account ≠ none →
        exec .subAlter s
          = answered
              (moved
                ((taken s rest).setDir
                  { s.dir with subs := Table.set s.dir.subs i { u with account := account, defaultClass := cls } }))
              0x04 tag (.done []))
      ∧ (s.account account = none → exec .subAlter s = answered (taken s rest) 0x04 tag .unknown)
/-- SUB-STATE writes the state of a defined record and nothing else (R13). SUB-CLOSE of a subscriber with no membership and no live
page frees the record, its map entry and its reference; a membership or a live page is IN-USE. Closing a GROUP takes one
from each member's memberships (R14, R3). An index or a new state out of range is BAD-VALUE, a FREE record UNKNOWN (the codes of
the states by log 12). -/
def Obligations.SubStateAndSubCloseOnADefinedRecord : Prop :=
  (∀ (s : State) (tag : Byte) (rest : List Order) (i st : Nat), i < 65536 → st < 256 →
    (OrderAt s 0x05 tag (writeFields [2, 1] [i, st]) rest → (4095 < i ∨ st = 0 ∨ 3 ≤ st) →
      exec .subState s = answered (taken s rest) 0x05 tag .badValue)
    ∧ (OrderAt s 0x06 tag (writeFields [2] [i]) rest → 4095 < i →
      exec .subClose s = answered (taken s rest) 0x06 tag .badValue))
  ∧ ∀ (s : State) (tag : Byte) (rest : List Order) (i : Nat), i ≤ 4095 →
    (∀ st : SubState, OrderAt s 0x05 tag (writeFields [2, 1] [i, stateNumber st]) rest →
      (∀ u, s.sub i = some u → exec .subState s
        = answered ((taken s rest).setDir { s.dir with subs := Table.set s.dir.subs i { u with state := st } })
            0x05 tag (.done []))
      ∧ (s.sub i = none → exec .subState s = answered (taken s rest) 0x05 tag .unknown))
    ∧ (OrderAt s 0x06 tag (writeFields [2] [i]) rest →
      (s.sub i = none → exec .subClose s = answered (taken s rest) 0x06 tag .unknown)
      ∧ (∀ u p, s.sub i = some u → u.body = .pager p →
        (p.memberships = 0 → (∀ e ∈ s.store.pages, e.2.subscriber ≠ i) →
          exec .subClose s
            = answered
                (((taken s rest).setDir
                    { s.dir with subs := Table.erase s.dir.subs i, airMap := Table.erase s.dir.airMap p.air }).modifyAccount
                  u.account fun a => { a with subRefs := a.subRefs - 1 })
                0x06 tag (.done []))
        ∧ (0 < p.memberships ∨ (∃ e ∈ s.store.pages, e.2.subscriber = i) →
            exec .subClose s = answered (taken s rest) 0x06 tag .inUse))
      ∧ ∀ u members, s.sub i = some u → u.body = .group members → members.Nodup → i ∉ members →
        ((∀ e ∈ s.store.pages, e.2.subscriber ≠ i ∧ e.2.via ≠ some i) →
          ∃ subs,
            exec .subClose s
              = answered
                  (((taken s rest).setDir { s.dir with subs := subs }).modifyAccount u.account
                    fun a => { a with subRefs := a.subRefs - 1 })
                  0x06 tag (.done [])
            ∧ Table.get subs i = none
            ∧ (∀ m ∈ members, ∀ v p, s.sub m = some v → v.body = .pager p →
                Table.get subs m = some { v with body := .pager { p with memberships := p.memberships - 1 } })
            ∧ ∀ j, j ≠ i → j ∉ members → Table.get subs j = s.sub j)
        ∧ ((∃ e ∈ s.store.pages, e.2.subscriber = i ∨ e.2.via = some i) →
            exec .subClose s = answered (taken s rest) 0x06 tag .inUse))
/-- GROUP-MEMBERS replaces a GROUP's list: a member that leaves loses a membership, a member that joins gains one, a member kept is
left unchanged; an index out of range, an empty list, one of more than 16, a repeated index or the group's own is BAD-VALUE, a
FREE target or member UNKNOWN, a target of another kind STATE, a member that is a GROUP BAD-VALUE (R15, R3). -/
def Obligations.GroupMembersReplacesTheList : Prop :=
  (∀ (s : State) (tag : Byte) (rest : List Order) (i : Nat) (members : List Nat),
    i < 65536 → members.length < 256 → (∀ m ∈ members, m < 65536) →
    OrderAt s 0x07 tag (writeFields [2] [i] ++ (be 1 members.length ++ members.flatMap (be 2))) rest →
    ¬ (i ≤ 4095 ∧ 1 ≤ members.length ∧ members.length ≤ 16 ∧ members.Nodup ∧ (∀ m ∈ members, m ≤ 4095) ∧ i ∉ members) →
    exec .groupMembers s = answered (taken s rest) 0x07 tag .badValue)
  ∧ ∀ (s : State) (tag : Byte) (rest : List Order) (i : Nat) (members : List Nat),
    i ≤ 4095 → 1 ≤ members.length → members.length ≤ 16 → members.Nodup → (∀ m ∈ members, m ≤ 4095) → i ∉ members →
    OrderAt s 0x07 tag (writeFields [2] [i] ++ (be 1 members.length ++ members.flatMap (be 2))) rest →
    (∀ u old, s.sub i = some u → u.body = .group old → old.Nodup → i ∉ old →
      (∀ m ∈ members, ∃ v p, s.sub m = some v ∧ v.body = .pager p) →
      ∃ subs,
        exec .groupMembers s = answered ((taken s rest).setDir { s.dir with subs := subs }) 0x07 tag (.done [])
        ∧ Table.get subs i = some { u with body := .group members }
        ∧ (∀ m v p, s.sub m = some v → v.body = .pager p →
            (m ∈ members → m ∉ old →
              Table.get subs m = some { v with body := .pager { p with memberships := p.memberships + 1 } })
            ∧ (m ∉ members → m ∈ old →
              Table.get subs m = some { v with body := .pager { p with memberships := p.memberships - 1 } })
            ∧ ((m ∈ members ↔ m ∈ old) → Table.get subs m = s.sub m))
        ∧ ∀ j, j ≠ i → j ∉ members → j ∉ old → Table.get subs j = s.sub j)
    ∧ (s.sub i = none ∨ (∃ m ∈ members, s.sub m = none) →
        exec .groupMembers s = answered (taken s rest) 0x07 tag .unknown)
    ∧ (∀ u p, s.sub i = some u → u.body = .pager p → (∀ m ∈ members, s.sub m ≠ none) →
        exec .groupMembers s = answered (taken s rest) 0x07 tag .state)
    ∧ ∀ u old, s.sub i = some u → u.body = .group old → (∀ m ∈ members, s.sub m ≠ none) →
        (∃ m ∈ members, ∃ v l, s.sub m = some v ∧ v.body = .group l) →
        exec .groupMembers s = answered (taken s rest) 0x07 tag .badValue
/-- SUB-QUERY and RESOLVE answer and change nothing (R16, R6): SUB-QUERY state FREE alone, or every field of the record, its number,
its memberships, its live pages and its held pages; RESOLVE the index, kind and state, and for a NUMBER the block entry, or
UNKNOWN. An index, a key kind, a number or an address out of range is BAD-VALUE. The order and the presence bytes of
SUB-QUERY's fields are the model's reading of R188 (logs 9, 11, 12, 56), hold enabled at a NUMERIC or ALPHA record log 47; that the
key of RESOLVE occupies 4 bytes for an air address too is log 13. -/
def Obligations.DirectoryQueriesReport : Prop :=
  ∀ (s : State) (tag : Byte) (rest : List Order),
    (∀ x n : Nat, x < 65536 →
      (OrderAt s 0x08 tag (writeFields [2] [x]) rest → 4095 < x →
        exec .subQuery s = answered (taken s rest) 0x08 tag .badValue)
      ∧ (OrderAt s 0x09 tag (writeFields [1, 4] [x, n]) rest → 2 ≤ x → x < 256 →
        exec .resolve s = answered (taken s rest) 0x09 tag .badValue))
    ∧
    (∀ i : Nat, i ≤ 4095 → OrderAt s 0x08 tag (writeFields [2] [i]) rest →
      (s.sub i = none → exec .subQuery s = answered (taken s rest) 0x08 tag (.done [0]))
      ∧ (∀ u p, s.sub i = some u → u.body = .pager p → exec .subQuery s = answered (taken s rest) 0x08 tag
          (.done
            ([u.state.code, u.kind.code] ++ optField 3 (some p.air) ++ be 2 u.account ++ [u.defaultClass.code]
              ++ optField 1 (some p.home.val) ++ optField 1 (some p.roaming.toNat) ++ [1, yesNo p.hold]
              ++ (match p.lastReg with
                  | some (z, t) => 1 :: numByte z :: be 4 t
                  | none => [0, 0, 0, 0, 0, 0])
              ++ [0, 0] ++ optField 4 (s.dir.numberOf i) ++ optField 2 (some p.memberships)
              ++ be 2 (s.store.pages.filter fun e => e.2.subscriber == i).length ++ be 1 (s.mailbox i).length)))
      ∧ ∀ u members, s.sub i = some u → u.body = .group members → exec .subQuery s = answered (taken s rest) 0x08 tag
          (.done
            ([u.state.code, u.kind.code] ++ [0, 0, 0, 0] ++ be 2 u.account ++ [u.defaultClass.code] ++ [0, 0] ++ [0, 0]
              ++ [0, 0] ++ [0, 0, 0, 0, 0, 0] ++ 1 :: (be 1 members.length ++ members.flatMap (be 2))
              ++ optField 4 (s.dir.numberOf i) ++ [0, 0, 0]
              ++ be 2 (s.store.pages.filter fun e => e.2.subscriber == i).length ++ be 1 (s.mailbox i).length)))
    ∧ (∀ n : Nat, n < 4294967296 → OrderAt s 0x09 tag (writeFields [1, 4] [0, n]) rest →
      (9999999 < n → exec .resolve s = answered (taken s rest) 0x09 tag .badValue)
      ∧ (n ≤ 9999999 → (∀ (e : Fin 8) (b : NumberBlock), s.dir.blocks[e] = some b →
            n < b.first ∨ b.first + b.count ≤ n ∨ s.sub (b.index + (n - b.first)) = none) →
          exec .resolve s = answered (taken s rest) 0x09 tag .unknown)
      ∧ ∀ (e : Fin 8) (b : NumberBlock) (u : Subscriber), BlocksLaw s → n ≤ 9999999 → s.dir.blocks[e] = some b →
          b.first ≤ n → n < b.first + b.count → s.sub (b.index + (n - b.first)) = some u →
          exec .resolve s = answered (taken s rest) 0x09 tag
            (.done (be 2 (b.index + (n - b.first)) ++ [u.kind.code, u.state.code] ++ [1, numByte e])))
    ∧ ∀ air : Nat, air < 4294967296 → OrderAt s 0x09 tag (writeFields [1, 4] [1, air]) rest →
      (4194303 < air → exec .resolve s = answered (taken s rest) 0x09 tag .badValue)
      ∧ (air ≤ 4194303 → Table.get s.dir.airMap air = none → exec .resolve s = answered (taken s rest) 0x09 tag .unknown)
      ∧ ∀ i u, air ≤ 4194303 → Table.get s.dir.airMap air = some i → s.sub i = some u →
          exec .resolve s = answered (taken s rest) 0x09 tag
            (.done (be 2 i ++ [u.kind.code, u.state.code] ++ [0, 0]))
/-! ## Line and phrase orders -/

/-- LINE-CONFIG replaces a line's four settings and nothing else; in RUNNING a line that is not CLOSED or has a prompt in progress is
STATE; a field out of range is BAD-VALUE (R38, R18; the rate in 2 bytes as a number of bit/s is log 40). LINE-PAUSE sets the pause flag and stops the timer; LINE-RESUME clears the
flag and starts the timer of a timed state from zero, and changes nothing on a line not paused (R37, R26). -/
def Obligations.LineOrdersSetLineAndPause : Prop :=
  ∀ (s : State) (tag : Byte) (rest : List Order) (n : LineId),
    (∀ (cls : LineClass) (rate entry idle : Nat), rate < 65536 → entry < 256 → idle < 256 →
      OrderAt s 0x0A tag
        (writeFields [1, 1, 2, 1, 1] [n.val, lineClassNumber cls, rate, entry, idle]) rest →
      let fits := (rate = 1200 ∨ rate = 2400 ∨ rate = 4800 ∨ rate = 9600 ∨ rate = 19200 ∨ rate = 38400)
        ∧ 5 ≤ entry ∧ entry ≤ 60 ∧ 10 ≤ idle ∧ idle ≤ 120
      let busy := s.port.mode = .running ∧ ((s.line n).asm ≠ .closed ∨ (s.line n).prompt ≠ none)
      (fits → ¬ busy → exec .lineConfig s
        = answered
            ((taken s rest).setLine n { s.line n with cls := cls, rate := rate, entryTimeout := entry, idleTimeout := idle })
            0x0A tag (.done []))
      ∧ (fits → busy → exec .lineConfig s = answered (taken s rest) 0x0A tag .state)
      ∧ (¬ fits → exec .lineConfig s = answered (taken s rest) 0x0A tag .badValue))
    ∧ (OrderAt s 0x0B tag (writeFields [1] [n.val]) rest →
      exec .linePause s
        = answered ((taken s rest).setLine n { s.line n with paused := true, timer := none }) 0x0B tag (.done []))
    ∧ (OrderAt s 0x0C tag (writeFields [1] [n.val]) rest →
      ((s.line n).paused = false → exec .lineResume s = answered (taken s rest) 0x0C tag (.done []))
      ∧ ((s.line n).paused = true → exec .lineResume s
        = answered
            ((taken s rest).setLine n
              { s.line n with
                paused := false
                timer :=
                  if (s.line n).prompt ≠ none then none
                  else
                    match (s.line n).asm with
                    | .awaitNumber => some (s.sys.base + (s.line n).idleTimeout * 1000)
                    | .number _ => some (s.sys.base + (s.line n).entryTimeout * 1000)
                    | .awaitBody _ => some (s.sys.base + (s.line n).entryTimeout * 1000)
                    | .body _ _ => some (s.sys.base + (s.line n).entryTimeout * 1000)
                    | _ => none })
            0x0C tag (.done [])))
    ∧ (∀ x c rate entry idle : Nat, x < 256 → c < 256 → (16 ≤ x ∨ 2 ≤ c) →
      OrderAt s 0x0A tag (writeFields [1, 1, 2, 1, 1] [x, c, rate, entry, idle]) rest →
      exec .lineConfig s = answered (taken s rest) 0x0A tag .badValue)
    ∧ ∀ x : Nat, 16 ≤ x → x < 256 →
      (OrderAt s 0x0B tag (writeFields [1] [x]) rest → exec .linePause s = answered (taken s rest) 0x0B tag .badValue)
      ∧ (OrderAt s 0x0C tag (writeFields [1] [x]) rest → exec .lineResume s = answered (taken s rest) 0x0C tag .badValue)
/-- PHRASE-SET makes a phrase DEFINED with a text of 1 to 40 printable characters whose every * opens a complete escape, and refuses
any other text of up to 40 characters, or another number, with BAD-VALUE; a text of 41 to 255 characters is a malformed body and is
BAD-FORM (R187). PHRASE-CLEAR makes a DEFINED phrase UNDEFINED; an UNDEFINED one is UNKNOWN (R40, R31, R29). -/
def Obligations.PhraseOrdersWriteTheTable : Prop :=
  ∀ (s : State) (tag : Byte) (rest : List Order) (n : Nat), n < 256 →
    (∀ text : List Byte, text.length ≤ 40 →
      OrderAt s 0x0E tag (writeFields [1] [n] ++ (be 1 text.length ++ text)) rest →
      let fits := n ≤ 99 ∧ text ≠ [] ∧ (∀ c ∈ text, 0x20 ≤ c.toNat ∧ c.toNat ≤ 0x7E) ∧ escapeState text = some .plain
      (fits → exec .phraseSet s
        = answered ((taken s rest).setIntake { s.intake with phrases := Table.set s.intake.phrases n text })
            0x0E tag (.done []))
      ∧ (¬ fits → exec .phraseSet s = answered (taken s rest) 0x0E tag .badValue))
    ∧ (∀ text : List Byte, 41 ≤ text.length → text.length < 256 →
      OrderAt s 0x0E tag (writeFields [1] [n] ++ (be 1 text.length ++ text)) rest →
      exec .phraseSet s = answered (taken s rest) 0x0E tag .badForm)
    ∧ (OrderAt s 0x0F tag (writeFields [1] [n]) rest →
      (99 < n → exec .phraseClear s = answered (taken s rest) 0x0F tag .badValue)
      ∧ (n ≤ 99 → Table.get s.intake.phrases n = none → exec .phraseClear s = answered (taken s rest) 0x0F tag .unknown)
      ∧ (n ≤ 99 → Table.get s.intake.phrases n ≠ none → exec .phraseClear s
        = answered ((taken s rest).setIntake { s.intake with phrases := Table.erase s.intake.phrases n })
            0x0F tag (.done [])))

/-! ## Page orders -/

/-- PAGE-SUBMIT: a body above 240 characters is BAD-FORM, a field out of range is BAD-VALUE, in STANDBY the order is NOT-RUNNING, a request that fails a check of admission is
REFUSED with the code of the first that fails and changes nothing, and any other creates its pages, starts the attempt 0 of each in
turn and answers the first reference, the count and every reference in order (R44 to R49, R67, R68; the started tens of a body of 221
to 230 characters are the model's choice, log 42). -/
def Obligations.PageSubmitAdmitsOrRefuses : Prop :=
  ∀ (s : State) (tag : Byte) (rest : List Order) (i c o : Nat) (text : List Byte),
    i < 65536 → c < 256 → o < 256 → text.length < 256 →
    OrderAt s 0x11 tag (writeFields [2, 1, 1] [i, c, o] ++ (be 1 text.length ++ text)) rest →
    let short := text.length ≤ 240
    let fits := short ∧ i ≤ 4095 ∧ c ≤ 3 ∧ o ≤ 1 ∧ ∀ ch ∈ text, 0x20 ≤ ch.toNat ∧ ch.toNat ≤ 0x7E
    (¬ short → exec .pageSubmit s = answered (taken s rest) 0x11 tag .badForm)
    ∧ (short → ¬ fits → exec .pageSubmit s = answered (taken s rest) 0x11 tag .badValue)
    ∧ (fits → s.port.mode = .standby → exec .pageSubmit s = answered (taken s rest) 0x11 tag .notRunning)
    ∧ (fits → s.port.mode = .running → ∀ cls : PageClass,
        (c = 0 ∧ cls = .emergency ∨ c = 1 ∧ cls = .priority ∨ c = 2 ∧ cls = .normal
          ∨ c = 3 ∧ ∃ u, s.sub i = some u ∧ cls = u.defaultClass) →
        let q : Request := ⟨i, cls, decide (o = 1), bodyKindOf text, text, .officeLink⟩
        (∀ e, Refuses s q e → exec .pageSubmit s = answered (taken s rest) 0x11 tag (.refused e))
        ∧ ∀ u x plan, Accepts s q u x plan → s.liveTickets.length ≤ 2048 →
          ∃ t refs, exec .pageSubmit s
              = answered t 0x11 tag (.done (be 2 (refs.headD 0) ++ be 1 refs.length ++ refs.flatMap (be 2)))
            ∧ PagesAdmitted (taken s rest) t q u plan refs)
    ∧ (fits → s.port.mode = .running → c = 3 → s.sub i = none →
        exec .pageSubmit s = answered (taken s rest) 0x11 tag (.refused .e02))
/-- PAGE-CANCEL ends a live page in any of its states with the outcome CANCELLED and answers the units charged and the page's tickets
left at the sites; reference 0 is BAD-VALUE, a reference of no live page UNKNOWN (R55, R56, R53, R54, R70 to R72, R43). Room announced to a
waiting line is counted by log 20, JOURNAL-HIGH stands before LOW-BALANCE by log 36, and the tickets are given up in the zones' order of
log 41, a waiting BATCH frame by log 44. -/
def Obligations.PageCancelEndsThePage : Prop :=
  ∀ (s : State) (tag : Byte) (rest : List Order) (r : Nat), r < 65536 →
    OrderAt s 0x12 tag (writeFields [2] [r]) rest →
    (r = 0 → exec .pageCancel s = answered (taken s rest) 0x12 tag .badValue)
    ∧ (r ≠ 0 → s.page r = none → exec .pageCancel s = answered (taken s rest) 0x12 tag .unknown)
    ∧ ∀ p, r ≠ 0 → s.page r = some p →
      ∃ t, exec .pageCancel s
          = answered t 0x12 tag
              (.done (be 4 (if p.transmissions = 0 then 0 else p.attemptFee)
                ++ be 1 (allZones.flatMap fun z => (s.zone z).atSite.filter fun k => k.reference == r).length))
        ∧ OutcomeReached (taken s rest) t r p .cancelled none
/-- PAGE-QUERY and HELD-LIST answer and change nothing. PAGE-QUERY gives every field of the record with the body's length in
place of the body, the position in the ticket-wait list or the mailbox, or the zones of the tickets not finished; HELD-LIST
the number of held pages and for each its reference, class, accepted time and expiry (R58, R59; presence bytes and codes by
R188). The zones PAGE-QUERY names for a page in ATTEMPT are those in which a ticket of the page, not an orphan, is not
finished (R59). CLASS-CONFIG reads or replaces the nine parameters of a class and answers those in force; a parameter out of
its range, a retry cap below the retry base, a batch hold that is not a multiple of 50 ms or not 0 for EMERGENCY, and an
unknown class are BAD-VALUE and change nothing (R60, R61; on is 00h by R188, log 9; the attempt fee in 2 bytes
is the model's choice, log 50). -/
def Obligations.PageAndClassOrdersReport : Prop :=
  (
    ∀ (s : State) (tag : Byte) (rest : List Order) (n : Nat), n < 65536 →
      let instant (t : Option Nat) : List Byte :=
        match t with
        | some t => 1 :: be 4 (t / 1000) ++ be 2 (t % 1000)
        | none => [0, 0, 0, 0, 0, 0, 0]
      (OrderAt s 0x13 tag (writeFields [2] [n]) rest →
        (n = 0 → exec .pageQuery s = answered (taken s rest) 0x13 tag .badValue)
        ∧ (n ≠ 0 → s.page n = none → exec .pageQuery s = answered (taken s rest) 0x13 tag .unknown)
        ∧ ∀ p, n ≠ 0 → s.page n = some p → exec .pageQuery s = answered (taken s rest) 0x13 tag
            (.done
              (be 2 n ++ be 2 p.subscriber ++ optField 2 p.via ++ be 2 p.account
                ++ [p.origin.code, p.cls.code, p.bodyKind.code] ++ be 1 p.body.length ++ [yesNo p.override, p.state.code]
                ++ be 1 p.attempts ++ be 1 p.stage ++ be 1 p.ticketsOut ++ [yesNo p.aired] ++ be 1 p.transmissions
                ++ be 4 p.estimate ++ be 2 p.attemptFee ++ be 4 p.accepted ++ be 4 p.expiry
                ++ instant p.retryDue ++ instant p.ackDeadline
                ++ optField 2 (if p.state = .waitTicket then (s.dispatch.ticketWait.findIdx? fun y => y == n).map (· + 1) else none)
                ++ optField 1 (if p.state = .held then ((s.mailbox p.subscriber).findIdx? fun y => y == n).map (· + 1) else none)
                ++ optField 1 (if p.state = .attempt then some (s.ticketZones n).toNat else none))))
      ∧ (OrderAt s 0x15 tag (writeFields [2] [n]) rest →
        (4095 < n → exec .heldList s = answered (taken s rest) 0x15 tag .badValue)
        ∧ (n ≤ 4095 → s.sub n = none → exec .heldList s = answered (taken s rest) 0x15 tag .unknown)
        ∧ (n ≤ 4095 → s.sub n ≠ none → exec .heldList s = answered (taken s rest) 0x15 tag
            (.done
              (be 1 (s.mailbox n).length
                ++ (s.mailbox n).flatMap fun r =>
                    match s.page r with
                    | some p => be 2 r ++ p.cls.code :: (be 4 p.accepted ++ be 4 p.expiry)
                    | none => [])))))
  ∧ (
    ∀ (s : State) (r : Nat) (z : Zone),
      ZoneSet.mem (s.ticketZones r) z = true ↔ ∃ k ∈ (s.zone z).live, k.reference = r ∧ k.orphan = false)
  ∧ (
    ∀ (s : State) (tag : Byte) (rest : List Order) (cls : PageClass),
      let code := classNumber cls
      let fields (p : ClassParams) : List Byte :=
        be 1 p.ackWindow ++ be 2 p.retryBase ++ be 2 p.retryCap ++ be 1 p.attemptLimit ++ be 1 p.lifetime
          ++ be 1 p.oneWayRepeats ++ be 2 p.repeatInterval ++ be 2 p.batchHold ++ [if p.outcomeNotices then 0 else 1]
      (OrderAt s 0x14 tag (writeFields [1] [code]) rest →
        exec .classConfigRead s = answered (taken s rest) 0x14 tag
          (.done (fields (match cls with
            | .emergency => s.sched.classes.emergency
            | .priority => s.sched.classes.priority
            | .normal => s.sched.classes.normal))))
      ∧ (∀ x : Nat, 3 ≤ x → x < 256 → OrderAt s 0x14 tag (writeFields [1] [x]) rest →
        exec .classConfigRead s = answered (taken s rest) 0x14 tag .badValue)
      ∧ (∀ (x : Nat) (fields : List Nat), 3 ≤ x → x < 256 → fields.length = 9 →
        OrderAt s 0x14 tag (writeFields [1, 1, 2, 2, 1, 1, 1, 2, 2, 1] (x :: fields)) rest →
        exec .classConfigWrite s = answered (taken s rest) 0x14 tag .badValue)
      ∧ ∀ (ack base cap limit life repeats interval hold notices : Nat),
        ack < 256 → base < 65536 → cap < 65536 → limit < 256 → life < 256 → repeats < 256 → interval < 65536 →
        hold < 65536 → notices < 256 →
        OrderAt s 0x14 tag
          (writeFields [1, 1, 2, 2, 1, 1, 1, 2, 2, 1] [code, ack, base, cap, limit, life, repeats, interval, hold, notices]) rest →
        let fits := 10 ≤ ack ∧ ack ≤ 120 ∧ 10 ≤ base ∧ base ≤ 600 ∧ 60 ≤ cap ∧ cap ≤ 7200 ∧ base ≤ cap ∧ 1 ≤ limit ∧ limit ≤ 15
          ∧ 1 ≤ life ∧ life ≤ 168 ∧ 1 ≤ repeats ∧ repeats ≤ 4 ∧ 30 ≤ interval ∧ interval ≤ 600 ∧ hold ≤ 2000 ∧ hold % 50 = 0
          ∧ (cls = .emergency → hold = 0) ∧ notices ≤ 1
        let p : ClassParams := ⟨ack, base, cap, limit, life, repeats, interval, hold, decide (notices = 0)⟩
        (fits → exec .classConfigWrite s
          = answered
              ((taken s rest).setSched
                { s.sched with
                  classes := match cls with
                    | .emergency => { s.sched.classes with emergency := p }
                    | .priority => { s.sched.classes with priority := p }
                    | .normal => { s.sched.classes with normal := p } })
              0x14 tag (.done (fields p)))
        ∧ (¬ fits → exec .classConfigWrite s = answered (taken s rest) 0x14 tag .badValue))

/-! ## Account and tariff orders -/

/-- ACCOUNT-OPEN makes a FREE account OPEN with the given plan and threshold or limit and everything else 0, and the plan's account
count rises by one; a field out of range or given for the other kind is BAD-VALUE, an UNDEFINED plan UNKNOWN, a target not FREE
STATE (R73). ACCOUNT-SET writes plan and threshold or limit, moves the plans' counts, sets low-notice given to no, and raises
LOW-BALANCE when the balance stands below the new threshold (R74). The presence bytes of threshold and limit, and BAD-VALUE where one
that the kind needs is not present, are the model's reading (log 10). -/
def Obligations.AccountOpenAndSetWriteTheAccount : Prop :=
  ∀ (s : State) (tag : Byte) (rest : List Order) (a kind plan pThr thr pLim lim : Nat),
    a < 65536 → kind < 256 → plan < 256 → pThr < 256 → thr < 4294967296 → pLim < 256 → lim < 4294967296 →
    let prepaid := pLim = 0 ∧ (pThr = 0 ∨ (pThr = 1 ∧ thr ≤ 2147483647))
    let postpaid := pThr = 0 ∧ pLim = 1
    let threshold := if pThr = 1 then some thr else none
    (OrderAt s 0x16 tag (writeFields [2, 1, 1, 1, 4, 1, 4] [a, kind, plan, pThr, thr, pLim, lim]) rest →
      let fits := a ≤ 1023 ∧ plan ≤ 31 ∧ ((kind = 0 ∧ prepaid) ∨ (kind = 1 ∧ postpaid))
      (¬ fits → exec .accountOpen s = answered (taken s rest) 0x16 tag .badValue)
      ∧ (fits → s.plan plan = none → exec .accountOpen s = answered (taken s rest) 0x16 tag .unknown)
      ∧ (fits → s.plan plan ≠ none → s.account a ≠ none → exec .accountOpen s = answered (taken s rest) 0x16 tag .state)
      ∧ ∀ p, fits → s.plan plan = some p → s.account a = none →
          exec .accountOpen s
            = answered
                ((taken s rest).setMoney
                  { s.money with
                    accounts := Table.set s.money.accounts a
                      ⟨.opened, plan, if kind = 0 then .prepaid 0 threshold false else .postpaid lim, 0, 0, 0, 0, 0, 0⟩
                    plans := Table.set s.money.plans plan { p with accounts := p.accounts + 1 } })
                0x16 tag (.done []))
    ∧ (OrderAt s 0x17 tag (writeFields [2, 1, 1, 4, 1, 4] [a, plan, pThr, thr, pLim, lim]) rest →
      (1023 < a → exec .accountSet s = answered (taken s rest) 0x17 tag .badValue)
      ∧ (a ≤ 1023 → s.account a = none → exec .accountSet s = answered (taken s rest) 0x17 tag .unknown)
      ∧ ∀ x, a ≤ 1023 → s.account a = some x →
        let fits := plan ≤ 31 ∧ (match x.money with | .prepaid _ _ _ => prepaid | .postpaid _ => postpaid)
        let low := match x.money with
          | .prepaid balance _ _ => pThr = 1 ∧ balance < thr
          | .postpaid _ => False
        let money (given : Bool) : Money := match x.money with
          | .prepaid balance _ _ => .prepaid balance threshold given
          | .postpaid _ => .postpaid lim
        let written (given : Bool) : State :=
          (taken s rest).setMoney
            { s.money with
              accounts := Table.set s.money.accounts a { x with plan := plan, money := money given }
              plans :=
                if x.plan = plan then s.money.plans
                else
                  Table.modify (Table.modify s.money.plans x.plan fun p => { p with accounts := p.accounts - 1 }) plan
                    fun p => { p with accounts := p.accounts + 1 } }
        (¬ fits → exec .accountSet s = answered (taken s rest) 0x17 tag .badValue)
        ∧ (fits → s.plan plan = none → exec .accountSet s = answered (taken s rest) 0x17 tag .unknown)
        ∧ (fits → s.plan plan ≠ none → ¬ low → exec .accountSet s = answered (written false) 0x17 tag (.done []))
        ∧ ∀ balance old given, fits → s.plan plan ≠ none → low → x.money = .prepaid balance old given →
            exec .accountSet s = answered (raise (written true) (.lowBalance a balance thr)) 0x17 tag (.done []))
/-- ACCOUNT-STATE writes an account's state (R75). ACCOUNT-CLOSE makes an account FREE and its plan's account count falls by
one; an account with a balance, a period charge or a period count is STATE, one with subscriber references or live pages
IN-USE (R78). An id out of range is BAD-VALUE, a FREE record UNKNOWN. ACCOUNT-QUERY and TARIFF-QUERY answer and change
nothing: state FREE or UNDEFINED alone, or every field. The available amount of ACCOUNT-QUERY is the free value of log 14
when it is outside the signed 32-bit format (R77, R80; presence bytes by R188, logs 11, 12). -/
def Obligations.AccountStateCloseAndQueriesAct : Prop :=
  (
    ∀ (s : State) (tag : Byte) (rest : List Order) (a st : Nat), a < 65536 → st < 256 →
      (OrderAt s 0x18 tag (writeFields [2, 1] [a, st]) rest →
        (1023 < a ∨ st = 0 ∨ 3 ≤ st → exec .accountState s = answered (taken s rest) 0x18 tag .badValue)
        ∧ (a ≤ 1023 → (st = 1 ∨ st = 2) → s.account a = none → exec .accountState s = answered (taken s rest) 0x18 tag .unknown)
        ∧ ∀ x, a ≤ 1023 → (st = 1 ∨ st = 2) → s.account a = some x →
            exec .accountState s
              = answered
                  ((taken s rest).setMoney
                    { s.money with
                      accounts := Table.set s.money.accounts a { x with state := if st = 1 then .opened else .suspended } })
                  0x18 tag (.done []))
      ∧ (OrderAt s 0x1B tag (writeFields [2] [a]) rest →
        (1023 < a → exec .accountClose s = answered (taken s rest) 0x1B tag .badValue)
        ∧ (a ≤ 1023 → s.account a = none → exec .accountClose s = answered (taken s rest) 0x1B tag .unknown)
        ∧ ∀ x, a ≤ 1023 → s.account a = some x →
          let holds := (∃ balance t g, x.money = .prepaid balance t g ∧ balance ≠ 0) ∨ x.periodCharged ≠ 0
            ∨ x.periodDelivered ≠ 0 ∨ x.periodNotDelivered ≠ 0
          (holds → exec .accountClose s = answered (taken s rest) 0x1B tag .state)
          ∧ (¬ holds → (0 < x.subRefs ∨ 0 < x.livePages) → exec .accountClose s = answered (taken s rest) 0x1B tag .inUse)
          ∧ ∀ p, ¬ holds → x.subRefs = 0 → x.livePages = 0 → s.plan x.plan = some p →
              exec .accountClose s
                = answered
                    ((taken s rest).setMoney
                      { s.money with
                        accounts := Table.erase s.money.accounts a
                        plans := Table.set s.money.plans x.plan { p with accounts := p.accounts - 1 } })
                    0x1B tag (.done [])))
  ∧ (
    ∀ (s : State) (tag : Byte) (rest : List Order) (a p : Nat), a < 65536 → p < 256 →
      (OrderAt s 0x1A tag (writeFields [2] [a]) rest →
        let available (x : Int) : List Byte :=
          if -2147483648 ≤ x ∧ x ≤ 2147483647 then beSigned 4 x else be 4 (Config.availableOutside x).toNat
        let counts (x : Account) : List Byte :=
          be 4 x.periodCharged ++ be 4 x.periodDelivered ++ be 4 x.periodNotDelivered ++ be 4 x.reserved ++ be 2 x.livePages
            ++ be 2 x.subRefs
        let stateCode (x : Account) : Byte := match x.state with | .opened => 1 | .suspended => 2
        (1023 < a → exec .accountQuery s = answered (taken s rest) 0x1A tag .badValue)
        ∧ (a ≤ 1023 → s.account a = none → exec .accountQuery s = answered (taken s rest) 0x1A tag (.done [0x00]))
        ∧ (∀ x balance threshold given, a ≤ 1023 → s.account a = some x → x.money = .prepaid balance threshold given →
            exec .accountQuery s = answered (taken s rest) 0x1A tag
              (.done
                ([stateCode x, 0] ++ be 1 x.plan ++ 1 :: beSigned 4 balance ++ [0, 0, 0, 0, 0] ++ optField 4 threshold
                  ++ [1, yesNo given] ++ counts x ++ available (balance - x.reserved))))
        ∧ ∀ x limit, a ≤ 1023 → s.account a = some x → x.money = .postpaid limit →
            exec .accountQuery s = answered (taken s rest) 0x1A tag
              (.done
                ([stateCode x, 1] ++ be 1 x.plan ++ [0, 0, 0, 0, 0] ++ 1 :: be 4 limit ++ [0, 0, 0, 0, 0]
                  ++ [0, 0] ++ counts x ++ available ((limit : Int) - x.periodCharged - x.reserved))))
      ∧ (OrderAt s 0x1D tag (writeFields [1] [p]) rest →
        (31 < p → exec .tariffQuery s = answered (taken s rest) 0x1D tag .badValue)
        ∧ (p ≤ 31 → s.plan p = none → exec .tariffQuery s = answered (taken s rest) 0x1D tag (.done (List.replicate 22 0)))
        ∧ ∀ x, p ≤ 31 → s.plan p = some x → exec .tariffQuery s = answered (taken s rest) 0x1D tag
            (.done
              (1 :: 1 :: be 2 x.page ++ 1 :: be 2 x.member ++ 1 :: be 2 x.perTen ++ 1 :: be 2 x.prioritySurcharge
                ++ 1 :: be 2 x.emergencySurcharge ++ 1 :: be 2 x.attemptFee ++ 1 :: be 2 x.accounts))))
/-- ACCOUNT-CREDIT moves a PREPAID balance by a signed amount, appends one CREDIT record and answers the new balance and the record's
number; low-notice given becomes no at or above the threshold, and a negative amount that leaves the balance below it raises
LOW-BALANCE once. An amount of 0, an id out of range, a POSTPAID account or a balance out of range is BAD-VALUE, a FREE record
UNKNOWN, a journal with no free slot FULL (R76, R72, R86). -/
def Obligations.AccountCreditMovesTheBalance : Prop :=
  ∀ (s : State) (tag : Byte) (rest : List Order) (a : Nat) (amount : Int), a < 65536 →
    -2147483648 ≤ amount → amount ≤ 2147483647 →
    OrderAt s 0x19 tag (writeFields [2] [a] ++ beSigned 4 amount) rest →
    (amount = 0 ∨ 1023 < a → exec .accountCredit s = answered (taken s rest) 0x19 tag .badValue)
    ∧ (amount ≠ 0 → a ≤ 1023 → s.account a = none → exec .accountCredit s = answered (taken s rest) 0x19 tag .unknown)
    ∧ (∀ x limit, amount ≠ 0 → a ≤ 1023 → s.account a = some x → x.money = .postpaid limit →
        exec .accountCredit s = answered (taken s rest) 0x19 tag .badValue)
    ∧ ∀ x old threshold given, amount ≠ 0 → a ≤ 1023 → s.account a = some x → x.money = .prepaid old threshold given →
      let balance := old + amount
      let fits := -2147483648 ≤ balance ∧ balance ≤ 2147483647
      let below := ∃ t : Nat, threshold = some t ∧ balance < t
      let above := ∃ t : Nat, threshold = some t ∧ (t : Int) ≤ balance
      let full := 2048 ≤ s.journal.records.length + s.store.pages.length
      (¬ fits → exec .accountCredit s = answered (taken s rest) 0x19 tag .badValue)
      ∧ (fits → full → exec .accountCredit s = answered (taken s rest) 0x19 tag .full)
      ∧ (fits → ¬ full → ∃ t after,
          exec .accountCredit s = answered t 0x19 tag (.done (beSigned 4 balance ++ be 4 s.journal.nextSeq.toNat))
          ∧ RecordAppended (taken s rest) t a (.credit amount balance)
          ∧ t.account a = some { x with money := .prepaid balance threshold after }
          ∧ (after = true ↔ (amount < 0 ∧ below) ∨ (given = true ∧ ¬ above))
          ∧ (amount < 0 → below → given = false → s.port.lost = 0 → s.port.notices.length < 63 →
              ∃ th : Nat, threshold = some th ∧ (.lowBalance a balance th) ∈ t.port.notices)
          ∧ (∀ b, b ≠ a → t.account b = s.account b) ∧ t.money.plans = s.money.plans
          ∧ t = { taken s rest with
                  money := t.money, journal := t.journal, sites := t.sites
                  port := { (taken s rest).port with notices := t.port.notices, lost := t.port.lost } })

/-- TARIFF-DEFINE writes the six amounts of a plan no account names; an attempt fee above the page or the member charge, or a plan id
out of range, is BAD-VALUE, a plan that accounts name IN-USE (R79). PERIOD-CLOSE appends one PERIOD record of the three period
values, sets them to 0, and answers them with the record's number; an id out of range is BAD-VALUE, a FREE record UNKNOWN, a
journal with no free slot FULL (R81). -/
def Obligations.TariffDefineAndPeriodCloseAct : Prop :=
  ∀ (s : State) (tag : Byte) (rest : List Order),
    (∀ p page member perTen pri emg fee : Nat, p < 256 → page < 65536 → member < 65536 → perTen < 65536 → pri < 65536 →
      emg < 65536 → fee < 65536 →
      OrderAt s 0x1C tag (writeFields [1, 2, 2, 2, 2, 2, 2] [p, page, member, perTen, pri, emg, fee]) rest →
      let fits := p ≤ 31 ∧ fee ≤ page ∧ fee ≤ member
      let named := ∃ x, s.plan p = some x ∧ 0 < x.accounts
      (¬ fits → exec .tariffDefine s = answered (taken s rest) 0x1C tag .badValue)
      ∧ (fits → named → exec .tariffDefine s = answered (taken s rest) 0x1C tag .inUse)
      ∧ (fits → ¬ named → exec .tariffDefine s
        = answered
            ((taken s rest).setMoney
              { s.money with plans := Table.set s.money.plans p ⟨page, member, perTen, pri, emg, fee, 0⟩ })
            0x1C tag (.done [])))
    ∧ ∀ a : Nat, a < 65536 → OrderAt s 0x1E tag (writeFields [2] [a]) rest →
      (1023 < a → exec .periodClose s = answered (taken s rest) 0x1E tag .badValue)
      ∧ (a ≤ 1023 → s.account a = none → exec .periodClose s = answered (taken s rest) 0x1E tag .unknown)
      ∧ ∀ x, a ≤ 1023 → s.account a = some x →
        (2048 ≤ s.journal.records.length + s.store.pages.length →
          exec .periodClose s = answered (taken s rest) 0x1E tag .full)
        ∧ (s.journal.records.length + s.store.pages.length < 2048 → ∃ t,
            exec .periodClose s = answered t 0x1E tag
              (.done
                (be 4 x.periodCharged ++ be 4 x.periodDelivered ++ be 4 x.periodNotDelivered
                  ++ be 4 s.journal.nextSeq.toNat))
            ∧ RecordAppended (taken s rest) t a (.period x.periodCharged x.periodDelivered x.periodNotDelivered)
            ∧ t.money
                = { s.money with
                    accounts := Table.set s.money.accounts a
                      { x with periodCharged := 0, periodDelivered := 0, periodNotDelivered := 0 } }
            ∧ t = { taken s rest with
                    money := t.money, journal := t.journal, sites := t.sites
                    port := { (taken s rest).port with notices := t.port.notices, lost := t.port.lost } })
/-! ## Journal orders -/

/-- JOURNAL-FETCH answers the number of records held and the oldest of them, as many as wanted and held, in the byte form of
12.4; JOURNAL-STATUS answers the records, the live pages, the free slots, the oldest and newest numbers, the next number, the
level and the condition; neither changes anything (R90, R92; presence bytes and codes by R188, log 9; a presence byte for each of the
two numbers is the model's choice, log 56). JOURNAL-RELEASE counts
back from the newest record: it removes the records up to and including a number held, removes nothing for a number already
released, and refuses a number beyond the newest with BAD-VALUE; after a removal the condition is evaluated and the wait list
is told of room (R91, R88, R89): with a line waiting one retry more is owed, with none the announcement is spent (the model's choice,
log 20). JOURNAL-LEVEL replaces the level and evaluates the condition at once (R93). -/
def Obligations.JournalOrdersAct : Prop :=
  (
    ∀ (s : State) (tag : Byte) (rest : List Order),
      let flag (b : Bool) (x : Byte) : Byte := if b then x else 0
      let bytes (r : JournalRecord) : List Byte :=
        match r.body with
        | .outcome subscriber via reference cls result units characters transmissions zone =>
          be 4 r.seq.toNat ++ [0x01, flag r.time.isSome 1 + (flag via.isSome 2 + flag zone.isSome 4)] ++ be 4 (r.time.getD 0)
            ++ be 2 r.account ++ (be 2 subscriber ++ be 2 (via.getD 0) ++ be 2 reference ++ [cls.code, result.code]
            ++ be 4 units ++ be 1 characters ++ be 1 transmissions ++ be 1 (match zone with | some z => z.val | none => 0))
        | .credit amount balance =>
          be 4 r.seq.toNat ++ [0x02, flag r.time.isSome 1] ++ be 4 (r.time.getD 0) ++ be 2 r.account
            ++ (beSigned 4 amount ++ beSigned 4 balance)
        | .period charged delivered notDelivered =>
          be 4 r.seq.toNat ++ [0x03, flag r.time.isSome 1] ++ be 4 (r.time.getD 0) ++ be 2 r.account
            ++ (be 4 charged ++ be 4 delivered ++ be 4 notDelivered)
      (∀ n : Nat, n < 256 → OrderAt s 0x1F tag (writeFields [1] [n]) rest →
        ((n = 0 ∨ 6 < n) → exec .journalFetch s = answered (taken s rest) 0x1F tag .badValue)
        ∧ (1 ≤ n → n ≤ 6 → exec .journalFetch s = answered (taken s rest) 0x1F tag
            (.done (be 2 s.journal.records.length ++ be 1 (min n s.journal.records.length)
              ++ (s.journal.records.take n).flatMap bytes))))
      ∧ (OrderAt s 0x21 tag [] rest →
        exec .journalStatus s = answered (taken s rest) 0x21 tag
          (.done (be 2 s.journal.records.length ++ be 2 s.store.pages.length
            ++ be 2 (2048 - s.journal.records.length - s.store.pages.length)
            ++ (match s.journal.records.head? with | some r => 1 :: be 4 r.seq.toNat | none => [0, 0, 0, 0, 0])
            ++ (match s.journal.records.getLast? with | some r => 1 :: be 4 r.seq.toNat | none => [0, 0, 0, 0, 0])
            ++ be 4 s.journal.nextSeq.toNat ++ be 2 s.journal.level ++ [if s.journal.high then 0 else 1]))))
  ∧ (
    ∀ (s : State) (tag : Byte) (rest : List Order),
      (∀ n : Nat, n < 4294967296 → OrderAt s 0x20 tag (writeFields [4] [n]) rest →
        let d := (s.journal.nextSeq - 1 - BitVec.ofNat 32 n).toNat
        let h := s.journal.records.length
        let answer (removed held : Nat) : Result :=
          .done (be 2 removed ++ be 2 held ++ be 2 (2048 - held - s.store.pages.length))
        (d < h → ∃ t, exec .journalRelease s = answered t 0x20 tag (answer (h - d) d)
          ∧ t.journal
              = { s.journal with records := s.journal.records.drop (h - d), high := decide (s.journal.level ≤ d) }
          ∧ t.sites.links = s.sites.links ∧ (t.journal.high = s.journal.high → t.sites = s.sites)
          ∧ (t.journal.high ≠ s.journal.high → s.port.lost = 0 → s.port.notices.length < 64 →
              (.journalHigh t.journal.high d s.journal.level) ∈ t.port.notices)
          ∧ (s.intake.waitList ≠ [] → t.intake = { s.intake with announcements := s.intake.announcements + 1 })
          ∧ (s.intake.waitList = [] → t.intake = s.intake)
          ∧ t = { taken s rest with
                  journal := t.journal, sites := t.sites, intake := t.intake
                  port := { (taken s rest).port with notices := t.port.notices, lost := t.port.lost } })
        ∧ (h ≤ d → d < 2147483648 → exec .journalRelease s = answered (taken s rest) 0x20 tag (answer 0 h))
        ∧ (h ≤ d → 2147483648 ≤ d → exec .journalRelease s = answered (taken s rest) 0x20 tag .badValue))
      ∧ ∀ level : Nat, level < 65536 → OrderAt s 0x22 tag (writeFields [2] [level]) rest →
        ((level = 0 ∨ 2048 < level) → exec .journalLevel s = answered (taken s rest) 0x22 tag .badValue)
        ∧ (1 ≤ level → level ≤ 2048 → ∃ t,
            let high := decide (level ≤ s.journal.records.length)
            exec .journalLevel s = answered t 0x22 tag (.done (be 2 level ++ [if high then 0 else 1]))
            ∧ t.journal = { s.journal with level := level, high := high }
            ∧ t.sites.links = s.sites.links ∧ (high = s.journal.high → t.sites = s.sites)
            ∧ (high ≠ s.journal.high → s.port.lost = 0 → s.port.notices.length < 64 →
                (.journalHigh high s.journal.records.length level) ∈ t.port.notices)
            ∧ t = { taken s rest with
                    journal := t.journal, sites := t.sites
                    port := { (taken s rest).port with notices := t.port.notices, lost := t.port.lost } }))

/-! ## Zone and group orders -/

/-- ZONE-SERVICE IN puts an OUT_OF_SERVICE zone into FAULTED while a take-out condition is present, else into SETTLING: the settle
window starts in RUNNING, and FWD-POWER-LOW stops being present; the change is notified and the new state answered. In any other
state the order is STATE; a zone or direction out of range is BAD-VALUE (R97, R113, R101, R140). -/
def Obligations.ZoneServiceInStartsAZone : Prop :=
  ∀ (s : State) (tag : Byte) (rest : List Order) (x d : Nat), x < 256 → d < 256 → d ≠ 1 →
    OrderAt s 0x24 tag (writeFields [1, 1] [x, d]) rest →
    ((8 ≤ x ∨ 2 ≤ d) → exec .zoneServiceIn s = answered (taken s rest) 0x24 tag .badValue)
    ∧ ∀ z : Zone, x = z.val → d = 0 →
      let takeOut := ∃ k : FaultKind, ((s.link z).fault k).present = true ∧ ((s.link z).fault k).takeOut = true
      let moved (after : ZoneState) : State :=
        raise ((taken s rest).setZone z { s.zone z with state := after }) (.zoneState z .outOfService after .order)
      ((s.zone z).state ≠ .outOfService → exec .zoneServiceIn s = answered (taken s rest) 0x24 tag .state)
      ∧ ((s.zone z).state = .outOfService → takeOut →
          exec .zoneServiceIn s = answered (moved .faulted) 0x24 tag (.done [4]))
      ∧ ((s.zone z).state = .outOfService → ¬ takeOut →
          exec .zoneServiceIn s
            = answered
                ((moved .settling).setLink z
                  ({ s.link z with
                      settle :=
                        if s.port.mode = OpState.running then some (s.sys.base + (s.zone z).settleWindow * 1000)
                        else (s.link z).settle }.setFault .fwdPowerLow
                    { (s.link z).fault .fwdPowerLow with present := false }))
                0x24 tag (.done [1]))
/-- ZONE-SERVICE OUT: an OUT_OF_SERVICE or DRAINING zone is STATE; a FAULTED zone goes OUT_OF_SERVICE; a zone in service or in SETTLING
goes to DRAINING with its drain timer running, or, with nothing at its site, ends its drain in the order. Its queues and unsent
batch are withdrawn, and where a take-out condition read at the end of SETTLING ends the drain its batch at the site is abandoned: a
page with tickets left goes on, one with none left that aired nothing waits its retry base, not counted. The link is as the
abandonment leaves it, its settle timer stopped, and otherwise as it was but for its fault kinds. No other zone changes state, and the
state answered is the zone's. The change and the end of a drain in the order are notified (R98, R99, R101, R112, R113, R134, R135, R140,
R50, R161, R162; the notices behind those of the pages by log 21, a drain with nothing at the site ended before FWD-POWER-LOW is read
afresh by log 22). -/
def Obligations.ZoneServiceOutDrainsAZone : Prop :=
  ∀ (s : State) (tag : Byte) (rest : List Order) (x : Nat), x < 256 → OrderAt s 0x24 tag (writeFields [1, 1] [x, 1]) rest →
    (8 ≤ x → exec .zoneServiceOut s = answered (taken s rest) 0x24 tag .badValue)
    ∧ ∀ z : Zone, x = z.val →
      let r := s.zone z
      ((r.state = .outOfService ∨ r.state = .draining) → exec .zoneServiceOut s = answered (taken s rest) 0x24 tag .state)
      ∧ (r.state = .faulted → exec .zoneServiceOut s
        = answered
            (raise ((taken s rest).setZone z { r with state := .outOfService }) (.zoneState z .faulted .outOfService .order))
            0x24 tag (.done [0]))
      ∧ (r.state = .inService → r.emergency = [] → r.priority = [] → r.normal = [] → r.making = none → r.site = none →
        exec .zoneServiceOut s
          = answered
              (raise
                (raise
                  (raise ((taken s rest).setZone z { r with state := .outOfService, drainTimer := none })
                    (.zoneState z .inService .draining .order))
                  (.zoneState z .draining .outOfService .drainCompleted))
                (.drainDone z .completed 0 0 0))
              0x24 tag (.done [0]))
      ∧ ((r.state = .inService ∨ r.state = .settling) → ∃ t,
        exec .zoneServiceOut s
            = answered t 0x24 tag (.done [match (t.zone z).state with | .draining => 3 | _ => 0])
          ∧ ((t.zone z).state = .draining ∨ (t.zone z).state = .outOfService)
          ∧ (r.site = none → (t.zone z).state = .outOfService)
          ∧ (r.state = .inService → r.site ≠ none → (t.zone z).state = .draining)
          ∧ (t.zone z).emergency = [] ∧ (t.zone z).priority = [] ∧ (t.zone z).normal = [] ∧ (t.zone z).making = none
          ∧ ((t.zone z).state = .draining → (t.zone z).drainTimer = some (s.sys.base + r.drainTimeout * 1000)
              ∧ ∀ b, r.site = some b → ∃ c, (t.zone z).site = some c ∧ c.number = b.number ∧ c.onAir = b.onAir
                  ∧ c.tickets.length = b.tickets.length)
          ∧ ((t.zone z).state = .outOfService → (t.zone z).drainTimer = none ∧ (t.zone z).site = none)
          ∧ (let settle := if r.state = .settling then none else (s.link z).settle
            ((t.zone z).state = .draining → t.link z = { s.link z with settle := settle, faults := (t.link z).faults })
            ∧ ((t.zone z).state = .outOfService →
                t.link z = { leftLink (taken s rest) z with settle := settle, faults := (t.link z).faults }))
          ∧ (∀ y : Zone, y ≠ z → (t.zone y).state = (s.zone y).state)
          ∧ t.sys = s.sys ∧ t.dir = s.dir ∧ t.returns = s.returns ∧ t.intake.lines = s.intake.lines
          ∧ Notified s t (3 * r.live.length + 4)
              ((.zoneState z r.state .draining .order) ∈ t.port.notices
                ∧ (r.site = none → DrainNotified t z .completed [] false)
                ∧ (r.site ≠ none → TicketPagesLaw s → (t.zone z).state = .outOfService →
                    DrainNotified t z .faulted r.atSite (r.site.any (·.onAir))))
          ∧ ((t.zone z).state = .draining → ∀ n, ReportedNotAired (taken s rest) t r.unsent n)
          ∧ ((t.zone z).state = .outOfService →
              ∀ n, ((∃ b, r.site = some b ∧ b.onAir = true) → ticketsOf n r.atSite = 0) →
                ReportedNotAired (taken s rest) t r.live n))
/-- LINE-QUERY answers the four settings, the assembler state, the counts and the fill, HOLD, the pause flag, the two overrun
flags, whether a prompt is in progress, and the position in the wait list or none (R39; the codes and bytes by R188, log 9, the rate as
a number log 40, the flags as yes or no log 49). PHRASE-QUERY answers the state of the phrase and, for a DEFINED phrase, its text as
stored (R41). ZONE-QUERY answers the zone's state, settings, time left, queues, batches, pattern and batch number, the pool and the ticket-wait list; GROUP-QUERY the
group's guard time, state, granted zone with its batch, time left, pointer, member zones with their states, and requests in search
order with whether each is an emergency request (R115, R126; bytes by R188, logs 9 and 11; the settle window's time left in STANDBY,
absent, log 39; the members in ascending number log 53, a guard time in 1 byte log 54, presence bytes of a batch's values log 56, a
queue's slot cost in 4 bytes log 57, the codes of a batch's state log 59). A number out of range is BAD-VALUE, and none of the four changes anything. -/
def Obligations.LinePhraseZoneAndGroupQueriesReport : Prop :=
  (
    ∀ (s : State) (tag : Byte) (rest : List Order),
      (∀ n : LineId, OrderAt s 0x0D tag (writeFields [1] [n.val]) rest →
        let l := s.line n
        exec .lineQuery s = answered (taken s rest) 0x0D tag
          (.done
            (([(match l.cls with | .caller => 0 | .console => 1)] : List Byte) ++ be 2 l.rate ++ be 1 l.entryTimeout ++ be 1 l.idleTimeout
              ++ ([(match l.asm with
                  | .closed => 0
                  | .awaitNumber => 1
                  | .number _ => 2
                  | .awaitBody _ => 3
                  | .body _ _ => 4
                  | .admitWait _ _ _ => 5
                  | .skip => 6)] : List Byte)
              ++ be 2 l.written.toNat ++ be 2 l.read.toNat ++ be 2 (l.written - l.read).toNat
              ++ [yesNo l.hold, yesNo l.paused, yesNo l.overrunLatch, yesNo l.overrunNoticed, yesNo l.prompt.isSome]
              ++ optField 1 ((s.intake.waitList.findIdx? fun m => m == n).map (· + 1)))))
      ∧ ∀ x : Nat, 16 ≤ x → x < 256 → OrderAt s 0x0D tag (writeFields [1] [x]) rest →
        exec .lineQuery s = answered (taken s rest) 0x0D tag .badValue)
  ∧ (
    ∀ (s : State) (tag : Byte) (rest : List Order) (n : Nat), n < 256 → OrderAt s 0x10 tag (writeFields [1] [n]) rest →
      (99 < n → exec .phraseQuery s = answered (taken s rest) 0x10 tag .badValue)
      ∧ (n ≤ 99 → Table.get s.intake.phrases n = none →
          exec .phraseQuery s = answered (taken s rest) 0x10 tag (.done [0x00, 0x00, 0x00]))
      ∧ ∀ text, n ≤ 99 → Table.get s.intake.phrases n = some text →
          exec .phraseQuery s = answered (taken s rest) 0x10 tag (.done (0x01 :: 0x01 :: (be 1 text.length ++ text))))
  ∧ (
    ∀ (s : State) (tag : Byte) (rest : List Order),
      let siteCode (b : SiteBatch) : Nat := if b.onAir then 3 else 2
      let slots (l : List Ticket) : Nat := (l.map (·.cost)).sum
      (∀ z : Zone, OrderAt s 0x25 tag (writeFields [1] [z.val]) rest →
        let r := s.zone z
        let queue (l : List Ticket) : List Byte := be 2 l.length ++ be 4 (slots l)
        let left := match r.state with
          | .settling => (s.link z).settle.map (· - s.sys.base)
          | .draining => r.drainTimer.map (· - s.sys.base)
          | _ => none
        exec .zoneQuery s = answered (taken s rest) 0x25 tag
          (.done
            ([r.state.code, numByte r.homeGroup] ++ be 1 r.drainTimeout ++ be 1 r.settleWindow ++ optField 2 left
              ++ queue r.emergency ++ queue r.priority ++ queue r.normal
              ++ (match r.making with
                  | none => [0, 0, 0, 0, 0, 0, 0, 0, 0, 0]
                  | some b =>
                    [1, (if b.closed then 1 else 0)] ++ 1 :: be 1 b.tickets.length ++ 1 :: be 1 (slots b.tickets)
                      ++ [1, (highestClass b.tickets).code]
                      ++ (if b.closed then [1, yesNo (ZoneSet.mem (s.group r.homeGroup).requests z)] else [0, 0]))
              ++ (match r.site with
                  | none => [0, 0, 0, 0, 0, 0, 0, 0, 0, 0]
                  | some b =>
                    1 :: be 1 (siteCode b) ++ [1, b.number] ++ 1 :: be 1 b.tickets.length ++ 1 :: be 1 (slots b.tickets)
                      ++ 1 :: be 1 (b.tickets.filter (·.orphan)).length)
              ++ [numByte r.pattern, r.nextBatch] ++ be 2 (2048 - s.liveTickets.length) ++ be 2 s.dispatch.ticketWait.length
              ++ be 2 (s.dispatch.ticketWait.filter fun n =>
                  match s.page n with | some p => p.cls == .emergency | none => false).length)))
      ∧ (∀ g : GroupId, OrderAt s 0x27 tag (writeFields [1] [g.val]) rest →
        let q := s.group g
        let members := allZones.filter fun z => (s.zone z).homeGroup == g
        let asking := (allZones.map fun k => q.pointer + 1 + k).filter fun z => ZoneSet.mem q.requests z
        exec .groupQuery s = answered (taken s rest) 0x27 tag
          (.done
            (be 1 q.guardTime
              ++ (match q.state with
                  | .free => [0, 0, 0, 0, 0, 0, 0, 0, 0]
                  | .guarding ends => [2, 0, 0, 0, 0, 0, 0] ++ 1 :: be 1 (ends - s.sys.base)
                  | .granted z =>
                    [1, 1, numByte z]
                      ++ (match (s.zone z).site with
                          | none => [0, 0, 0, 0]
                          | some b => 1 :: be 1 (siteCode b) ++ [1, b.number])
                      ++ [0, 0])
              ++ [numByte q.pointer] ++ be 1 members.length ++ members.flatMap (fun z => [numByte z, (s.zone z).state.code])
              ++ be 1 asking.length ++ asking.flatMap (fun z => [numByte z, yesNo (s.zone z).emergencyRequest]))))
      ∧ ∀ x : Nat, x < 256 →
        (8 ≤ x → OrderAt s 0x25 tag (writeFields [1] [x]) rest → exec .zoneQuery s = answered (taken s rest) 0x25 tag .badValue)
        ∧ (4 ≤ x → OrderAt s 0x27 tag (writeFields [1] [x]) rest →
            exec .groupQuery s = answered (taken s rest) 0x27 tag .badValue))

/-! ## Orders of the site links -/

/-- ZONE-CONFIG replaces a zone's three settings and GROUP-CONFIG a group's guard time; a field out of range is BAD-VALUE, a zone not
OUT_OF_SERVICE, or a group with such a member zone, STATE (R114, R125; the drain timeout as a number of seconds is log 40, the
guard time in 1 byte the model's choice, log 54).
LINK-CONFIG replaces a zone's link window, FAULT-MASK the mask of one kind, ALARM-MAP the map of one output, whose state with that of
the other is then evaluated: asserted while a latched flag of a mapped kind is set in any zone, or JOURNAL-HIGH is mapped and set
(R143, R145, R147, R142). A field out of range is BAD-VALUE; bits 6 and 7 of a map are disregarded (log 34). -/
def Obligations.ZoneGroupAndSiteSettingsAreWritten : Prop :=
  (
    ∀ (s : State) (tag : Byte) (rest : List Order) (x y drain settle : Nat), x < 256 → y < 256 → drain < 256 → settle < 256 →
      (OrderAt s 0x23 tag (writeFields [1, 1, 1, 1] [x, y, drain, settle]) rest →
        let fits := (drain = 5 ∨ drain = 10 ∨ drain = 15 ∨ drain = 20) ∧ 1 ≤ settle ∧ settle ≤ 15
        ((8 ≤ x ∨ 4 ≤ y ∨ ¬ fits) → exec .zoneConfig s = answered (taken s rest) 0x23 tag .badValue)
        ∧ ∀ (z : Zone) (g : GroupId), x = z.val → y = g.val → fits →
          ((s.zone z).state ≠ .outOfService → exec .zoneConfig s = answered (taken s rest) 0x23 tag .state)
          ∧ ((s.zone z).state = .outOfService → exec .zoneConfig s
            = answered
                ((taken s rest).setZone z { s.zone z with homeGroup := g, drainTimeout := drain, settleWindow := settle })
                0x23 tag (.done [])))
      ∧ (OrderAt s 0x26 tag (writeFields [1, 1] [x, y]) rest →
        ((4 ≤ x ∨ 124 < y ∨ y % 4 ≠ 0) → exec .groupConfig s = answered (taken s rest) 0x26 tag .badValue)
        ∧ ∀ g : GroupId, x = g.val → y ≤ 124 → y % 4 = 0 →
          ((∃ z : Zone, (s.zone z).homeGroup = g ∧ (s.zone z).state ≠ .outOfService) →
            exec .groupConfig s = answered (taken s rest) 0x26 tag .state)
          ∧ ((∀ z : Zone, (s.zone z).homeGroup = g → (s.zone z).state = .outOfService) →
            exec .groupConfig s
              = answered ((taken s rest).setGroup g { s.group g with guardTime := y }) 0x26 tag (.done []))))
  ∧ (
    ∀ (s : State) (tag : Byte) (rest : List Order) (x y v : Nat), x < 256 → y < 256 → v < 256 →
      (OrderAt s 0x28 tag (writeFields [1, 1] [x, v]) rest →
        ((8 ≤ x ∨ v = 0 ∨ 10 < v) → exec .linkConfig s = answered (taken s rest) 0x28 tag .badValue)
        ∧ ∀ z : Zone, x = z.val → 1 ≤ v → v ≤ 10 →
            exec .linkConfig s = answered ((taken s rest).setLink z { s.link z with window := v }) 0x28 tag (.done []))
      ∧ (OrderAt s 0x2A tag (writeFields [1, 1, 1] [x, y, v]) rest →
        ((8 ≤ x ∨ 5 ≤ y ∨ 2 ≤ v) → exec .faultMask s = answered (taken s rest) 0x2A tag .badValue)
        ∧ ∀ (z : Zone) (k : FaultKind), x = z.val → y = k.code.toNat → v ≤ 1 →
            exec .faultMask s
              = answered
                  ((taken s rest).setLink z
                    ((s.link z).setFault k { (s.link z).fault k with masked := decide (v = 1) }))
                  0x2A tag (.done []))
      ∧ (OrderAt s 0x2C tag (writeFields [1, 1] [x, v]) rest →
        let asserted (map : BitVec 6) : Bool :=
          (allZones.any fun z => allFaultKinds.any fun k => map.getLsbD k.code.toNat && ((s.link z).fault k).latched)
            || (map.getLsbD 5 && s.journal.high)
        let outputs (a b : BitVec 6) : Sites :=
          { s.sites with alarmA := ⟨a, asserted a⟩, alarmB := ⟨b, asserted b⟩ }
        (2 ≤ x → exec .alarmMap s = answered (taken s rest) 0x2C tag .badValue)
        ∧ (x = 0 → exec .alarmMap s
            = answered ((taken s rest).setSites (outputs (BitVec.ofNat 6 v) s.sites.alarmB.map)) 0x2C tag (.done []))
        ∧ (x = 1 → exec .alarmMap s
            = answered ((taken s rest).setSites (outputs s.sites.alarmA.map (BitVec.ofNat 6 v))) 0x2C tag (.done []))))
/-- FAULT-ACTION replaces the action of a site condition, and the take-out computation is made at once: a first take-out condition takes
the zone out, the last one gone puts a FAULTED zone into SETTLING, each change of state and a drain's end being notified, and nothing else
moves; any other kind, a zone or an action out of range is BAD-VALUE (R144, R139, R96, R99 to R101; a take-out's notice behind those of
the pages by log 21; that the three kinds have the codes 02h to 04h is the model's choice, log 59). -/
def Obligations.FaultActionMovesTheZone : Prop :=
  ∀ (s : State) (tag : Byte) (rest : List Order) (x y v : Nat), x < 256 → y < 256 → v < 256 →
    OrderAt s 0x29 tag (writeFields [1, 1, 1] [x, y, v]) rest →
    ((8 ≤ x ∨ y ≤ 1 ∨ 5 ≤ y ∨ 2 ≤ v) → exec .faultAction s = answered (taken s rest) 0x29 tag .badValue)
    ∧ ∀ (z : Zone) (k : FaultKind), x = z.val → y = k.code.toNat → 2 ≤ y → v ≤ 1 →
      let l : LinkRec := (s.link z).setFault k { (s.link z).fault k with takeOut := decide (v = 1) }
      let written := (taken s rest).setLink z l
      ((TakeOutAt s z ↔ TakeOutAt written z) → exec .faultAction s = answered written 0x29 tag (.done []))
      ∧ (¬ TakeOutAt s z → TakeOutAt written z →
          ∃ t, exec .faultAction s = answered t 0x29 tag (.done []) ∧ TakenOut written t z)
      ∧ (TakeOutAt s z → ¬ TakeOutAt written z → (s.zone z).state ≠ .faulted →
          exec .faultAction s = answered written 0x29 tag (.done []))
      ∧ (TakeOutAt s z → ¬ TakeOutAt written z → (s.zone z).state = .faulted →
          exec .faultAction s
            = answered
                ((raise (written.setZone z { s.zone z with state := .settling })
                    (.zoneState z .faulted .settling .takeOutClear)).setLink z
                  ({ l with
                      settle :=
                        if s.port.mode = OpState.running then some (s.sys.base + (s.zone z).settleWindow * 1000)
                        else l.settle }.setFault .fwdPowerLow { l.fault .fwdPowerLow with present := false }))
                0x29 tag (.done []))
/-- FAULT-CLEAR clears the latched flags of the kinds named whose condition is not present, raising FAULT-CHANGE for each
that is not masked, evaluates the outputs, and answers for each kind named its latched and present state; a zone or kind out
of range is BAD-VALUE (R146, R141, R142; ALL and a count before the kinds by R188, logs 9, 11). FAULT-QUERY answers a zone's
five kinds, last reported values, toggles, resync, batch, running timers, discarded frames and both outputs, and changes
nothing; a zone out of range is BAD-VALUE (R148; presence bytes and codes by R188, logs 9, 11; each
output's map behind its state, the one presence byte of the last reported values and a code for no batch at the link are the model's
choices, logs 51, 55 and 58). -/
def Obligations.FaultClearAndQueryAct : Prop :=
  (
    ∀ (s : State) (tag : Byte) (rest : List Order) (x y : Nat), x < 256 → y < 256 →
      OrderAt s 0x2B tag (writeFields [1, 1] [x, y]) rest →
      ((8 ≤ x ∨ 6 ≤ y) → exec .faultClear s = answered (taken s rest) 0x2B tag .badValue)
      ∧ ∀ z : Zone, x = z.val → y ≤ 5 →
        let named (k : FaultKind) : Prop := y = 5 ∨ y = k.code.toNat
        let kinds := allFaultKinds.filter fun k => decide (y = 5) || decide (y = k.code.toNat)
        let asserted (map : BitVec 6) (t : State) : Bool :=
          (allZones.any fun w => allFaultKinds.any fun k => map.getLsbD k.code.toNat && ((t.link w).fault k).latched)
            || (map.getLsbD 5 && s.journal.high)
        let stays (k : FaultKind) : Bool := ((s.link z).fault k).latched && ((s.link z).fault k).present
        ∃ t, exec .faultClear s
            = answered t 0x2B tag
                (.done (be 1 kinds.length
                  ++ kinds.flatMap fun k => [if stays k then 0 else 1, yesNo ((s.link z).fault k).present]))
          ∧ (∀ k, named k → (t.link z).fault k = { (s.link z).fault k with latched := stays k })
          ∧ (∀ k, ¬ named k → (t.link z).fault k = (s.link z).fault k)
          ∧ (∀ k, named k → ((s.link z).fault k).latched = true → ((s.link z).fault k).present = false →
              ((s.link z).fault k).masked = false → s.port.lost = 0 → s.port.notices.length ≤ 59 →
              (.faultChange z k false false) ∈ t.port.notices)
          ∧ ((∀ k, named k → ((s.link z).fault k).latched = false ∨ ((s.link z).fault k).present = true
                ∨ ((s.link z).fault k).masked = true) → t.port = (taken s rest).port)
          ∧ (∀ w : Zone, w ≠ z → t.link w = s.link w)
          ∧ t.link z = { s.link z with faults := (t.link z).faults }
          ∧ t.sites.alarmA = ⟨s.sites.alarmA.map, asserted s.sites.alarmA.map t⟩
          ∧ t.sites.alarmB = ⟨s.sites.alarmB.map, asserted s.sites.alarmB.map t⟩
          ∧ t = { taken s rest with
                  sites := t.sites, port := { (taken s rest).port with notices := t.port.notices, lost := t.port.lost } })
  ∧ (
    ∀ (s : State) (tag : Byte) (rest : List Order),
      (∀ z : Zone, OrderAt s 0x2D tag (writeFields [1] [z.val]) rest →
        let l := s.link z
        let left (t : Option Nat) : List Byte := optField 2 (t.map (· - s.sys.base))
        let kind (f : FaultRec) : List Byte :=
          [yesNo f.present, if f.latched then 0 else 1, yesNo f.takeOut, yesNo f.masked]
        exec .faultQuery s = answered (taken s rest) 0x2D tag
          (.done
            (kind (l.fault .linkLost) ++ kind (l.fault .carrierStuck) ++ kind (l.fault .fwdPowerLow)
              ++ kind (l.fault .reflectedHigh) ++ kind (l.fault .siteAlarm)
              ++ (match l.last with
                  | some r =>
                    [1, if r.carrier then 0 else 1, yesNo r.tt, yesNo r.dt, yesNo r.fwdPowerLow, yesNo r.reflectedHigh,
                      yesNo r.siteAlarm]
                  | none => [0, 0, 0, 0, 0, 0, 0])
              ++ [yesNo l.st, (match l.ra with | some true => 1 | some false => 0 | none => 2), yesNo l.resyncPending,
                  (match l.batch with | .none => 0 | .withheld _ => 1 | .sent => 2 | .onAir => 3)]
              ++ (match (s.zone z).site with | some b => [1, b.number] | none => [0, 0])
              ++ left l.silence ++ left l.resync ++ left l.take ++ left (l.carrier.map (·.2)) ++ left l.settle
              ++ be 2 l.discarded
              ++ [yesNo s.sites.alarmA.asserted, s.sites.alarmA.map.zeroExtend 8, yesNo s.sites.alarmB.asserted,
                  s.sites.alarmB.map.zeroExtend 8])))
      ∧ ∀ x : Nat, 8 ≤ x → x < 256 → OrderAt s 0x2D tag (writeFields [1] [x]) rest →
        exec .faultQuery s = answered (taken s rest) 0x2D tag .badValue)

/-! ## Traffic meters -/

/-- METER-CONFIG replaces the configuration whole; then a disabled meter's counts are 0, its flags no and its timer stopped; an
enabled one in RUNNING has counts 0, a new interval, and its flags evaluated by the new threshold and hysteresis; in STANDBY nothing
else changes. Each change of a flag is notified. A field out of range, a threshold of 0 or a hysteresis not below its threshold is
BAD-VALUE (R171, R170). The interval in 1 byte as a number of seconds is log 40; that an interval end no zone has taken yet is
dropped where the counts become 0 is log 30. METER-RESET makes the peak, or the average with the congested flag, of one zone or of
all eight 0 and no; a flag that was yes is notified; the other zones, the counts, samples, timer and configuration stay; an unknown
zone or item is BAD-VALUE (R172). METER-READ answers the enable, the interval, the weight, the time left or none, and for one zone
or all eight the threshold, the hysteresis, the count, the sample, the peak, the average and the flag, and changes nothing; an
unknown zone is BAD-VALUE (R173; codes, presence byte and count by R188, logs 9, 11; the interval as a number log 40). -/
def Obligations.MeterOrdersAct : Prop :=
  (
    ∀ (s : State) (tag : Byte) (rest : List Order) (e interval weight : Nat) (pairs : List (Nat × Nat)),
      e < 256 → interval < 256 → weight < 256 → pairs.length = 8 → (∀ p ∈ pairs, p.1 < 65536 ∧ p.2 < 65536) →
      OrderAt s 0x2E tag
        (writeFields ([1, 1, 1] ++ List.replicate 16 2) (e :: interval :: weight :: pairs.flatMap fun p => [p.1, p.2])) rest →
      let fits := e ≤ 1 ∧ (interval = 1 ∨ interval = 2 ∨ interval = 5 ∨ interval = 10) ∧ 1 ≤ weight ∧ weight ≤ 7
        ∧ ∀ p ∈ pairs, 1 ≤ p.1 ∧ p.2 < p.1
      let evaluated (m : ZoneMeter) (p : Nat × Nat) : Bool :=
        if p.1 ≤ m.average then true else if m.average < p.1 - p.2 then false else m.congested
      let quiet (m : ZoneMeter) (p : Nat × Nat) : ZoneMeter :=
        if e = 1 then { m with threshold := p.1, hysteresis := p.2, count := 0, congested := false }
        else if s.port.mode = OpState.running then
          { m with threshold := p.1, hysteresis := p.2, count := 0, congested := evaluated m p }
        else { m with threshold := p.1, hysteresis := p.2 }
      (¬ fits → exec .meterConfig s = answered (taken s rest) 0x2E tag .badValue)
      ∧ (fits → ∃ t, exec .meterConfig s = answered t 0x2E tag (.done [])
          ∧ t.meter.enabled = decide (e = 0) ∧ t.meter.interval = interval ∧ t.meter.weight = weight
          ∧ t.meter.timer
              = (if e = 1 then none
                else if s.port.mode = OpState.running then some (s.sys.base + interval * 1000) else s.meter.timer)
          ∧ t.meter.owing = (if e = 1 ∨ s.port.mode = OpState.running then [] else s.meter.owing)
          ∧ (∀ (z : Zone) (p : Nat × Nat), pairs[z.val]? = some p →
              t.zoneMeter z = quiet (s.zoneMeter z) p
                ∧ ((t.zoneMeter z).congested ≠ (s.zoneMeter z).congested → s.port.lost = 0 → s.port.notices.length ≤ 56 →
                    (.congestionChange z (t.zoneMeter z).congested (s.zoneMeter z).average p.1 p.2) ∈ t.port.notices))
          ∧ t = { taken s rest with
                  meter := t.meter, port := { (taken s rest).port with notices := t.port.notices, lost := t.port.lost } }))
  ∧ (
    ∀ (s : State) (tag : Byte) (rest : List Order) (x item : Nat), x < 256 → item < 256 →
      OrderAt s 0x2F tag (writeFields [1, 1] [x, item]) rest →
      let named (z : Zone) : Prop := x = 8 ∨ x = z.val
      (item ≠ 1 → (9 ≤ x ∨ item ≠ 0) → exec .meterResetPeak s = answered (taken s rest) 0x2F tag .badValue)
      ∧ (item = 1 → 9 ≤ x → exec .meterResetAverage s = answered (taken s rest) 0x2F tag .badValue)
      ∧ (item = 0 → x ≤ 8 → ∃ t, exec .meterResetPeak s = answered t 0x2F tag (.done [])
          ∧ (∀ z, named z → t.zoneMeter z = { s.zoneMeter z with peak := 0 })
          ∧ (∀ z, ¬ named z → t.zoneMeter z = s.zoneMeter z)
          ∧ t = { taken s rest with meter := { s.meter with zones := t.meter.zones } })
      ∧ (item = 1 → x ≤ 8 → ∃ t, exec .meterResetAverage s = answered t 0x2F tag (.done [])
          ∧ (∀ z, named z → t.zoneMeter z = { s.zoneMeter z with average := 0, congested := false }
              ∧ ((s.zoneMeter z).congested = true → s.port.lost = 0 → s.port.notices.length ≤ 56 →
                  (.congestionChange z false 0 (s.zoneMeter z).threshold (s.zoneMeter z).hysteresis) ∈ t.port.notices))
          ∧ (∀ z, ¬ named z → t.zoneMeter z = s.zoneMeter z)
          ∧ t = { taken s rest with
                  meter := { s.meter with zones := t.meter.zones }
                  port := { (taken s rest).port with notices := t.port.notices, lost := t.port.lost } }))
  ∧ (
    ∀ (s : State) (tag : Byte) (rest : List Order) (x : Nat), x < 256 → OrderAt s 0x30 tag (writeFields [1] [x]) rest →
      let zones := allZones.filter fun z => decide (x = 8) || decide (x = z.val)
      (9 ≤ x → exec .meterRead s = answered (taken s rest) 0x30 tag .badValue)
      ∧ (x ≤ 8 → exec .meterRead s = answered (taken s rest) 0x30 tag
          (.done
            ([if s.meter.enabled then 0 else 1] ++ be 1 s.meter.interval ++ be 1 s.meter.weight
              ++ (match s.meter.timer with | some ends => 1 :: be 2 (ends - s.sys.base) | none => [0, 0, 0])
              ++ be 1 zones.length
              ++ zones.flatMap fun z =>
                  be 2 (s.zoneMeter z).threshold ++ be 2 (s.zoneMeter z).hysteresis ++ be 2 (s.zoneMeter z).count
                    ++ be 2 (s.zoneMeter z).sample ++ be 2 (s.zoneMeter z).peak ++ be 2 (s.zoneMeter z).average
                    ++ [if (s.zoneMeter z).congested then 1 else 0]))))

/-- METER_INTERVAL_END is one zone's meter taking an interval end, as an event of its own (R169): its sample becomes its count, its count
0, its peak the greater, its average moved by the difference divided by 2 to the power N rounded toward minus infinity, and its flag
evaluated, a change being notified (R170). While zones have the last end still to take, the first of them takes it and no time
passes; with none, time stands at the end of the interval at least, the next interval ends one interval later, and zone 0 is the first
to take it. The zones in ascending number are the model's choice (log 30), as are the time passing up to the end (log 3) and that the
command changes nothing with the timer stopped (log 4). -/
def Obligations.MeterIntervalEndMovesOneZone : Prop :=
  ∀ s : State,
    let takesEnd (t : State) (z : Zone) : Prop :=
      ∃ average : Nat,
        let m := s.zoneMeter z
        (average : Int) = m.average + Int.fdiv ((m.count : Int) - m.average) (2 ^ s.meter.weight)
        ∧ t.zoneMeter z
            = { m with
                sample := m.count, count := 0, peak := max m.peak m.count, average := average
                congested :=
                  if m.threshold ≤ average then true
                  else if average < m.threshold - m.hysteresis then false else m.congested }
        ∧ ((t.zoneMeter z).congested = m.congested → t.port = s.port)
        ∧ ((t.zoneMeter z).congested ≠ m.congested → s.port.lost = 0 → s.port.notices.length < 64 →
            t.port
              = { s.port with
                  notices := s.port.notices
                    ++ [.congestionChange z (t.zoneMeter z).congested average m.threshold m.hysteresis] })
        ∧ (∀ y : Zone, y ≠ z → t.zoneMeter y = s.zoneMeter y)
        ∧ t = { s with
                sys := t.sys, meter := { s.meter with zones := t.meter.zones, timer := t.meter.timer, owing := t.meter.owing }
                port := { s.port with notices := t.port.notices, lost := t.port.lost } }
    (s.meter.owing = [] → s.meter.timer = none → exec .meterIntervalEnd s = .next s)
    ∧ (∀ z rest, s.meter.owing = z :: rest → ∃ t, exec .meterIntervalEnd s = .next (pump t)
        ∧ takesEnd t z ∧ t.meter.owing = rest ∧ t.meter.timer = s.meter.timer ∧ t.sys = s.sys)
    ∧ ∀ ends, s.meter.owing = [] → s.meter.timer = some ends → ∃ t, exec .meterIntervalEnd s = .next (pump t)
        ∧ takesEnd t 0 ∧ t.meter.owing = [1, 2, 3, 4, 5, 6, 7]
        ∧ t.meter.timer = some (ends + s.meter.interval * 1000)
        ∧ t.sys = (elapseTo s ends).sys ∧ t.sys.base = max s.sys.base ends
/-! ## Orders of the port -/

/-- IDENTIFY answers the part name, the design level 01h, the office link rate, the operating state, the store state found at
the last power-up, the clock state and the cause of the last start, in either operating state, and changes nothing (R181; the
name behind its length byte, the codes by 12.2, the rate as a number log 40, the store state by STARTED's codes log 46).
CLOCK-SET sets the office clock to any number of seconds with milliseconds 0, and moves nothing else, the millisecond time base
included; CLOCK-READ answers the state of the clock with its seconds and milliseconds, and changes nothing (R180; presence byte by
R188). -/
def Obligations.IdentifyAndClockOrdersAct : Prop :=
  (
    ∀ (s : State) (tag : Byte) (rest : List Order), OrderAt s 0x31 tag [] rest →
      exec .identify s = answered (taken s rest) 0x31 tag
        (.done
          (([0x0B, 0x4B, 0x45, 0x53, 0x54, 0x52, 0x4F, 0x50, 0x20, 0x38, 0x31, 0x36, 0x01] : List Byte)
            ++ be 4 (match s.sys.rate with | .r115200 => 115200 | .r230400 => 230400 | .r460800 => 460800 | .r921600 => 921600)
            ++ ([(match s.port.mode with | .standby => 0 | .running => 1),
                (match s.sys.storeFound with | .empty => 0 | .valid => 1),
                (if s.sys.clock = none then 0 else 1),
                (match s.sys.lastCause with | .powerUp => 0 | .restart => 1 | .reset => 2)] : List Byte))))
  ∧ (
    ∀ (s : State) (tag : Byte) (rest : List Order),
      (∀ x : Nat, x < 4294967296 → OrderAt s 0x32 tag (writeFields [4] [x]) rest →
        exec .clockSet s = answered ((taken s rest).setSys { s.sys with clock := some (x * 1000) }) 0x32 tag (.done []))
      ∧ (OrderAt s 0x33 tag [] rest →
        (s.sys.clock = none → exec .clockRead s = answered (taken s rest) 0x33 tag (.done [0, 0, 0, 0, 0, 0, 0, 0]))
        ∧ ∀ t, s.sys.clock = some t →
            exec .clockRead s = answered (taken s rest) 0x33 tag (.done (1 :: 1 :: (be 4 (t / 1000) ++ be 2 (t % 1000))))))

/-- START in STANDBY with a SET clock enters RUNNING: every line releases HOLD, every link starts its silence and resync
timers and sends POLL, with RESYNC while resync is pending, the next 200 ms after it, each zone in SETTLING starts its settle window, the interval timer starts if metering is
enabled, and nothing else changes; in RUNNING or with the clock UNSET it is STATE (R182, R149, R130, R97, R169). An order of an
unknown kind is BAD-FORM (R176). RESTART is answered DONE in either state and arranges a start for when its answer has been
sent, changing nothing else (R183). STORE-ERASE in RUNNING is STATE; in STANDBY it empties every table, sets every setting to
its default and releases both outputs; the clock, the retention flag and the port stay, and no notice is raised (R185). -/
def Obligations.StartRestartAndEraseAct : Prop :=
  (
    ∀ (s : State) (tag : Byte) (rest : List Order),
      (OrderAt s 0x34 tag [] rest →
        ((s.port.mode = .running ∨ s.sys.clock = none) → exec .start s = answered (taken s rest) 0x34 tag .state)
        ∧ (s.port.mode = .standby → s.sys.clock ≠ none → ∃ t, exec .start s = answered t 0x34 tag (.done [])
            ∧ t.port = { (taken s rest).port with mode := .running }
            ∧ (∀ n : LineId, t.line n = { s.line n with hold := false })
            ∧ (∀ z : Zone,
                let l := s.link z
                let timed : LinkRec :=
                  { l with
                    silence := some (s.sys.base + l.window * 1000)
                    resync := some (s.sys.base + l.window * 1000)
                    settle :=
                      if (s.zone z).state = .settling then some (s.sys.base + (s.zone z).settleWindow * 1000) else l.settle }
                let poll : List Byte :=
                  siteFrame 0x02
                    [(match l.ra with | none => 0 | some false => 2 | some true => 3) + (if l.resyncPending then 4 else 0)
                      + (if l.st then 8 else 0)]
                t.link z
                  = (if l.sendingBatch then { timed with pollWaiting := true, pollDue := none }
                    else { timed with tx := poll, pollWaiting := false, pollDue := some (s.sys.base + 200) }))
            ∧ t.meter = { s.meter with
                  timer := if s.meter.enabled then some (s.sys.base + s.meter.interval * 1000) else none }
            ∧ t = { taken s rest with
                    port := t.port, meter := t.meter, intake := { s.intake with lines := t.intake.lines }
                    sites := { s.sites with links := t.sites.links } }))
      ∧ ∀ (kind : Byte) (body : List Byte), kind = 0 ∨ 0x37 ≤ kind.toNat → OrderAt s kind tag body rest →
          exec .unknownOrderKind s = answered (taken s rest) kind tag .badForm)
  ∧ (
    ∀ (s : State) (tag : Byte) (rest : List Order),
      (OrderAt s 0x35 tag [] rest →
        exec .restart s
          = answered ((taken s rest).setPort { (taken s rest).port with restart := .arranged }) 0x35 tag (.done []))
      ∧ (OrderAt s 0x36 tag [] rest →
        (s.port.mode = .running → exec .storeErase s = answered (taken s rest) 0x36 tag .state)
        ∧ (s.port.mode = .standby → ∃ t, exec .storeErase s = answered t 0x36 tag (.done [])
          ∧ t.port = (taken s rest).port ∧ t.sys = s.sys ∧ t.returns = s.returns ∧ t.pending = s.pending
          ∧ t.dir = { subs := [], blocks := Vector.replicate 8 none, airMap := [] }
          ∧ t.intake.phrases = [] ∧ t.intake.waitList = s.intake.waitList
          ∧ (∀ n : LineId, t.line n
              = { s.line n with cls := .caller, rate := 9600, entryTimeout := 15, idleTimeout := 30 })
          ∧ t.store = { pages := [], refCounter := 1, mailboxes := [] } ∧ t.money = { accounts := [], plans := [] }
          ∧ t.journal = { records := [], nextSeq := 1, level := 1792, high := false }
          ∧ t.sched = State.reset.sched ∧ t.dispatch = State.reset.dispatch ∧ t.arbiter = State.reset.arbiter
          ∧ (∀ z : Zone, t.link z = { s.link z with window := 3, faults := (State.reset.link z).faults })
          ∧ t.sites.alarmA = ⟨0, false⟩ ∧ t.sites.alarmB = ⟨0, false⟩
          ∧ t.meter.enabled = false ∧ t.meter.interval = 5 ∧ t.meter.weight = 3 ∧ t.meter.timer = s.meter.timer ∧ t.meter.owing = s.meter.owing
          ∧ ∀ z : Zone, t.zoneMeter z = { s.zoneMeter z with threshold := 120, hysteresis := 20 })))

/-! ## Starts and the supply -/

/-- RESTART_START, once the answer of a RESTART has been sent, and RESET_PIN at any time start the part with its store kept (R183);
POWER_UP with the retention flag set does so with cause POWER_UP, the clock running on, and with the flag clear leaves the part as
the first power-up leaves it, with the rate of the strap pins; either way STARTED is marked to be the first frame sent after it, ahead
of an answer that comes to wait (the model's choice between R184 and R179, log 48); BACKUP_VOLTAGE_LOW clears the flag (R184). The
time without power is the command's operand (log 32); that RESTART_START changes nothing where no start is due is the model's choice (log 4), as is the
state between RESTART's answer and its start (log 8). -/
def Obligations.StartsConvertThePart : Prop :=
  ∀ s : State,
    (s.port.restart ≠ .due → exec .restartStart s = .next s)
    ∧ (s.port.restart = .due → ∃ t, exec .restartStart s = .next (pump t) ∧ Started s t .restart)
    ∧ (∃ t, exec .resetPin s = .next (pump t) ∧ Started s t .reset)
    ∧ exec .backupVoltageLow s = .next (pump (s.setSys { s.sys with retention := false }))
    ∧ ∀ (rate : OfficeRate) (without : Nat),
      let later := elapse s without
      (s.sys.retention = true → ∃ t, exec (.powerUp rate without) s = .next (pump t)
        ∧ Started (later.setSys { later.sys with rate := rate, storeFound := .valid }) t .powerUp)
      ∧ (s.sys.retention = false → exec (.powerUp rate without) s
        = .next
            (pump
              { State.reset with
                pending := s.pending
                sys := { base := s.sys.base + without, clock := none, retention := true, rate := rate
                         storeFound := .empty, lastCause := .powerUp }
                port := { State.reset.port with
                          sending := none, notices := [.started .powerUp .empty false], linkHold := s.port.linkHold
                          silent := true } }))
/-! ## Events of the office link -/

/-- OFFICE_FRAME_RECEIVED with the rest of a frame, any part of it received before: a frame whose CRC is right is an order,
queued while fewer than four wait, else answered QUEUE-FULL through the refusal list, or with that full too rejected for
OVERFLOW; a frame whose CRC is wrong is rejected for CRC. The receiver hunts afterwards (R175, R176, R177). OFFICE_FRAME_GAP
after a beginning of a frame rejects it for GAP, 51 ms having passed (the least whole number above 50, log 3); after bytes
without A5h nothing is rejected. OFFICE_FRAME_LENGTH rejects a length below 2 or above 258 for LENGTH, and collects on from
any other (R175). -/
def Obligations.OfficeFramesBecomeOrders : Prop :=
  (
    ∀ (s : State) (kind tag c1 c2 : Byte) (body : List Byte) (k : Nat), body.length ≤ 256 →
      let content := be 2 (body.length + 2) ++ (kind :: tag :: body)
      let frame := 0xA5 :: (content ++ [c1, c2])
      k < frame.length → s.port.rx = (if k = 0 then .hunt else .frame ((frame.take k).drop 1)) →
      let hunting := s.setPort { s.port with rx := .hunt }
      let p := hunting.port
      ([c1, c2] = be 2 (crc16 content).toNat →
        (s.port.orders.length < 4 → exec (.officeFrameReceived (frame.drop k)) s
          = .next (pump (hunting.setPort { p with orders := p.orders ++ [⟨kind, tag, body⟩] })))
        ∧ (4 ≤ s.port.orders.length → s.port.refusals.length < 4 → exec (.officeFrameReceived (frame.drop k)) s
          = .next
              (pump
                (hunting.setPort
                  { p with
                    refusals := p.refusals ++ [⟨kind ||| 0x80, tag, [0x08]⟩], ready := p.ready ++ [.refusal] })))
        ∧ (4 ≤ s.port.orders.length → 4 ≤ s.port.refusals.length → exec (.officeFrameReceived (frame.drop k)) s
          = .next (pump (raise hunting (.frameRejected .overflow)))))
      ∧ ([c1, c2] ≠ be 2 (crc16 content).toNat → exec (.officeFrameReceived (frame.drop k)) s
          = .next (pump (raise hunting (.frameRejected .crc)))))
  ∧ (
    ∀ s : State, s.port.rx = .hunt →
      (∀ (high low : Byte) (rest : List Byte) (k : Nat), 2 ≤ high.toNat * 256 + low.toNat → high.toNat * 256 + low.toNat ≤ 258 →
        rest.length = high.toNat * 256 + low.toNat + 2 → 1 ≤ k → k < rest.length + 3 →
        exec (.officeFrameGap ((0xA5 :: high :: low :: rest).take k)) s
          = .next (pump (raise (elapse s 51) (.frameRejected .gap))))
      ∧ (∀ bytes : List Byte, 0xA5 ∉ bytes →
          exec (.officeFrameReceived bytes) s = .next (pump s)
            ∧ exec (.officeFrameGap bytes) s = .next (pump (elapse s 51)))
      ∧ ∀ high low : Byte,
          (high.toNat * 256 + low.toNat < 2 ∨ 258 < high.toNat * 256 + low.toNat →
            exec (.officeFrameLength high low) s = .next (pump (raise s (.frameRejected .length))))
          ∧ (2 ≤ high.toNat * 256 + low.toNat → high.toNat * 256 + low.toNat ≤ 258 →
            exec (.officeFrameLength high low) s = .next (pump (s.setPort { s.port with rx := .frame [high, low] }))))

/-- The last byte of an answer empties its place, and makes a RESTART arranged by its order due; the last byte of a notice
frees the line; LINK-HOLD takes its level; with nothing of the kind being sent, the two ends change nothing (R176, R177,
R179, R183). The output line: a free line begins the earliest ready answer, which keeps its place, else the head notice,
which leaves the queue; a line that is not free begins nothing. The first frame after a power-up is the head notice, STARTED,
whatever answers wait (R184; the model's choice before R179, log 48). No other block is touched (R179; no frame is begun once a
start is due, log 8). A notice is appended while the lost count is 0 and a place is free; one that finds no place is lost and
counted; with notices lost before, two places are needed, one for NOTICES-LOST. Nothing but the notice queue and the count
changes (R178). The place of a refusal being freed at its last byte is log 7, and the two ends changing nothing log 4. Every notice has its
kind and its body, numbers most significant byte first, and every frame its CRC, whose register starts at FFFFh and takes each byte, most
significant bit first, by the polynomial 1021h, with 29B1h for the nine characters 123456789 (R178, R186, R188; 12.2 lays out four notices, and the
codes and layouts of the others are the model's reading, logs 9, 11 and 56). -/
def Obligations.TheOutputLineServesAnswersThenNotices : Prop :=
  (
    ∀ (s : State) (frame : List Byte),
      (s.port.sending = some ⟨.slot, frame⟩ → exec .answerSent s
        = .next
            (pump
              (s.setPort
                { s.port with
                  sending := none, slot := none, ready := s.port.ready.tail
                  restart := if s.port.restart = .arranged then .due else s.port.restart })))
      ∧ (s.port.sending = some ⟨.refusal, frame⟩ → exec .answerSent s
        = .next
            (pump
              (s.setPort
                { s.port with sending := none, refusals := s.port.refusals.tail, ready := s.port.ready.tail })))
      ∧ (s.port.sending = some ⟨.notice, frame⟩ →
          exec .noticeSent s = .next (pump (s.setPort { s.port with sending := none })) ∧ exec .answerSent s = .next s)
      ∧ (s.port.sending = none → exec .answerSent s = .next s)
      ∧ ((∀ f, s.port.sending ≠ some ⟨.notice, f⟩) → exec .noticeSent s = .next s)
      ∧ ∀ high : Bool, exec (.linkHoldChange high) s = .next (pump (s.setPort { s.port with linkHold := high })))
  ∧ (
    ∀ s : State, AnswersOrdered s →
      let free := s.port.sending = none ∧ s.port.linkHold = true ∧ s.port.restart ≠ .due
      let first := s.port.silent = true ∧ s.port.notices ≠ []
      (¬ free → pump s = s)
      ∧ (∀ a more, free → ¬ first → s.port.ready = .slot :: more → s.port.slot = some a →
          pump s
            = s.setPort { s.port with sending := some ⟨.slot, officeFrame a.kind a.tag a.body⟩, silent := false })
      ∧ (∀ a more others, free → ¬ first → s.port.ready = .refusal :: more → s.port.refusals = a :: others →
          pump s
            = s.setPort { s.port with sending := some ⟨.refusal, officeFrame a.kind a.tag a.body⟩, silent := false })
      ∧ (∀ n others, free → first ∨ s.port.ready = [] → s.port.notices = n :: others →
          pump s
            = s.setPort
                { s.port with
                  sending := some ⟨.notice, officeFrame n.kind 0 n.body⟩, notices := others, silent := false })
      ∧ (free → s.port.ready = [] → s.port.notices = [] → pump s = s)
      ∧ (free → s.port.ready ≠ [] →
          (∃ a more, s.port.ready = .slot :: more ∧ s.port.slot = some a)
            ∨ ∃ a more others, s.port.ready = .refusal :: more ∧ s.port.refusals = a :: others))
  ∧ (
    ∀ (s : State) (n : Notice),
      let q := s.port.notices
      (s.port.lost = 0 → q.length < 64 → raise s n = s.setPort { s.port with notices := q ++ [n] })
      ∧ (s.port.lost = 0 → 64 ≤ q.length → raise s n = s.setPort { s.port with lost := 1 })
      ∧ (0 < s.port.lost → q.length ≤ 62 →
          raise s n = s.setPort { s.port with notices := q ++ [.noticesLost s.port.lost, n], lost := 0 })
      ∧ (0 < s.port.lost → 62 < q.length → raise s n = s.setPort { s.port with lost := min 65535 (s.port.lost + 1) }))
  ∧ (∀ n : Notice, n.kind :: n.body = noticeBytes n)
  ∧ (
    ∀ x : Nat,
      be 1 x = [BitVec.ofNat 8 x] ∧ be 2 x = [BitVec.ofNat 8 (x / 256), BitVec.ofNat 8 x]
        ∧ be 3 x = [BitVec.ofNat 8 (x / 65536), BitVec.ofNat 8 (x / 256), BitVec.ofNat 8 x]
        ∧ be 4 x
            = [BitVec.ofNat 8 (x / 16777216), BitVec.ofNat 8 (x / 65536), BitVec.ofNat 8 (x / 256), BitVec.ofNat 8 x]
        ∧ (x ≤ 2147483647 → beSigned 4 x = be 4 x) ∧ (1 ≤ x → x ≤ 2147483648 → beSigned 4 (-(x : Int)) = be 4 (4294967296 - x))
        ∧ ∀ n, optField n (some x) = 1 :: be n x ∧ optField n none = 0 :: List.replicate n 0)
  ∧ (
    ∀ (kind tag : Byte) (body : List Byte),
      let office := be 2 (body.length + 2) ++ (kind :: tag :: body)
      let site := be 2 (body.length + 1) ++ (kind :: body)
      officeFrame kind tag body = 0xA5 :: (office ++ be 2 (crc16 office).toNat)
        ∧ siteFrame kind body = 0xC3 :: (site ++ be 2 (crc16 site).toNat))
  ∧ (
    let shift (x : BitVec 16) : BitVec 16 := if x.msb then (x <<< 1) ^^^ 0x1021 else x <<< 1
    crc16 [] = 0xFFFF
      ∧ (∀ (bytes : List Byte) (b : Byte),
          crc16 (bytes ++ [b])
            = shift (shift (shift (shift (shift (shift (shift (shift (crc16 bytes ^^^ (b.zeroExtend 16 <<< 8))))))))))
      ∧ crc16 [0x31, 0x32, 0x33, 0x34, 0x35, 0x36, 0x37, 0x38, 0x39] = 0x29B1)

/-! ## Intake lines: bytes -/

/-- LINE_BYTE_RECEIVED: a byte with a framing error, or in STANDBY, changes nothing; in RUNNING it is stored behind the
others while the ring holds fewer than 512, asserting HOLD from 410 on, an OPEN clearing the overrun-noticed flag; a full
ring loses it, marks its newest byte, and notifies the loss once (R19, R20). LINE_OPEN consumes an OPEN: the entry in
progress is abandoned, the line leaves the wait list, gives prompt N and waits for a number. LINE_CLOSE consumes a CLOSE: the
line leaves the wait list and is CLOSED without a prompt. With no such byte to consume they change nothing, and LINE_CHARACTER_CONSUMED none at
an OPEN or CLOSE (R23, R24, R36, R21, R22; the model's choices, log 4 and log 37; the retry a new head is owed, log 20; the whole token
on TXD, log 38). -/
def Obligations.LineBytesAndCallsAct : Prop :=
  (
    ∀ (s : State) (n : LineId) (b : Byte) (framing : Bool),
      let l := s.line n
      let fill := (l.written - l.read).toNat
      (framing = true ∨ s.port.mode = .standby → exec (.lineByteReceived n b framing) s = .next s)
      ∧ (s.port.mode = .running → fill < 512 → exec (.lineByteReceived n b false) s
        = .next
            (pump
              (s.setLine n
                { l with
                  ring := l.ring ++ [(b, false)], written := l.written + 1
                  overrunNoticed := if b = 0x11 then false else l.overrunNoticed
                  hold := if 410 ≤ fill + 1 then true else l.hold })))
      ∧ ∀ older c mark, s.port.mode = .running → 512 ≤ fill → l.ring = older ++ [(c, mark)] →
          let lost := s.setLine n { l with ring := older ++ [(c, true)], overrunNoticed := true }
          exec (.lineByteReceived n b false) s
            = .next (pump (if l.overrunNoticed then lost else raise lost (.lineOverrun n))))
  ∧ (
    ∀ (s : State) (n : LineId),
      (∀ mark, Consumable s n 0x11 mark → ∃ t, exec (.lineOpen n) s = .next (pump t)
        ∧ t.line n = prompted (afterByte (s.line n)) .n .awaitNumber mark ∧ LeftWait s t n
        ∧ (∀ m : LineId, m ≠ n → t.line m = s.line m)
        ∧ t = { s with intake := { t.intake with phrases := s.intake.phrases } })
      ∧ (∀ mark, Consumable s n 0x12 mark → ∃ t, exec (.lineClose n) s = .next (pump t)
        ∧ t.line n
            = { afterByte (s.line n) with
                asm := .closed, timer := none, waitLimit := none, overrunLatch := (s.line n).overrunLatch || mark }
        ∧ LeftWait s t n ∧ (∀ m : LineId, m ≠ n → t.line m = s.line m)
        ∧ t = { s with intake := { t.intake with phrases := s.intake.phrases } })
      ∧ ((∀ mark, ¬ Consumable s n 0x11 mark) → exec (.lineOpen n) s = .next s)
      ∧ ((∀ mark, ¬ Consumable s n 0x12 mark) → exec (.lineClose n) s = .next s)
      ∧ ((∀ c mark, Consumable s n c mark → c = 0x11 ∨ c = 0x12) → exec (.lineCharacterConsumed n) s = .next s))

/-- The # that ends a number gives prompt E with the code of the first check that fails and waits for a number again, or prompt M and
waits for the body with the index, class, override and body limit kept. The checks in order: form E01, resolution E01, subscriber
E02 or E12, account E03, marker on a CALLER line E04 (R28, R4, R6; the whole token of a prompt on TXD is the model's choice, log 38). -/
def Obligations.NumberChecksDecideAtTheNumberSign : Prop :=
  ∀ (s : State) (n : LineId) (mark : Bool) (buffer : List Byte), Consumable s n 0x23 mark →
    (s.line n).asm = .number buffer ∨ (s.line n).asm = .awaitNumber ∧ buffer = [] →
    let l := afterByte (s.line n)
    let refused (e : ECode) : Prop :=
      exec (.lineCharacterConsumed n) s = .next (pump (s.setLine n (prompted l (.e e) .awaitNumber mark)))
    (readNumber buffer = none → refused .e01)
    ∧ ∀ k, readNumber buffer = some k →
      let resolves (i : Nat) : Prop := s.sub i ≠ none ∧ match k.address with
        | .index j => i = j
        | .number d => ∃ (e : Fin 8) (b : NumberBlock), s.dir.blocks[e] = some b ∧ b.first ≤ d ∧ d < b.first + b.count
            ∧ i = b.index + (d - b.first)
      BlocksLaw s →
      ((∀ i, ¬ resolves i) → refused .e01)
      ∧ ∀ i u, resolves i → s.sub i = some u →
        let open' := ∃ x, s.account u.account = some x ∧ x.state = .opened
        let marked := l.cls = .caller ∧ ((∃ j, k.address = .index j) ∨ k.priority = true ∨ k.emergency = true ∨ k.override = true)
        (u.state = .suspended → refused .e02)
        ∧ (u.state = .active → recipientsOf s i u = [] → refused .e12)
        ∧ (u.state = .active → recipientsOf s i u ≠ [] → ¬ open' → refused .e03)
        ∧ (u.state = .active → recipientsOf s i u ≠ [] → open' → marked → refused .e04)
        ∧ (u.state = .active → recipientsOf s i u ≠ [] → open' → ¬ marked →
            let cls := if k.emergency then .emergency else if k.priority then .priority else u.defaultClass
            let numeric := (recipientsOf s i u).any fun r =>
              match s.sub r with | some v => (match v.body with | .pager p => p.kind == .numeric | .group _ => false) | none => false
            exec (.lineCharacterConsumed n) s
              = .next
                  (pump
                    (s.setLine n
                      (prompted l .m (.awaitBody ⟨i, cls, k.override, if numeric then 40 else 240⟩)
                        (l.overrunLatch || mark)))))
/-- The form of a number: seven digits, or ** and four digits of an index up to 4095, and behind it the markers *1, *2 and *9
in any order, none twice, *1 and *2 not together; any other buffer is of no form (R28). The expansion of a raw body,
character by character: a literal and an escape write one character within the limit or fail with E07; a phrase reference
goes on with the phrase's text and comes back, fails with E05 for an UNDEFINED phrase, and inside a depth-2 phrase with E06
before the phrase is looked up (R32, R29). Where a text stands in its escapes: a * opens one, * # - and _ close it, a digit
asks for a second digit that closes it, and any other character is illegal there (R29). -/
def Obligations.EntriesHaveOneGrammar : Prop :=
  (
    let digits (l : List Byte) : Prop := ∀ c ∈ l, 0x30 ≤ c.toNat ∧ c.toNat ≤ 0x39
    let value (l : List Byte) : Nat := l.foldl (fun x c => x * 10 + (c.toNat - 0x30)) 0
    let markers (ms : List Byte) : List Byte := ms.flatMap fun m => [0x2A, m]
    let fit (ms : List Byte) : Prop := (∀ m ∈ ms, m = 0x31 ∨ m = 0x32 ∨ m = 0x39) ∧ ms.Nodup ∧ ¬ (0x31 ∈ ms ∧ 0x32 ∈ ms)
    let keyed (a : Address) (ms : List Byte) : Keyed :=
      ⟨a, ms.contains 0x31, ms.contains 0x32, ms.contains 0x39⟩
    (∀ ds ms : List Byte, ds.length = 7 → digits ds → fit ms →
      readNumber (ds ++ markers ms) = some (keyed (.number (value ds)) ms))
    ∧ (∀ ds ms : List Byte, ds.length = 4 → digits ds → value ds ≤ 4095 → fit ms →
      readNumber ([0x2A, 0x2A] ++ ds ++ markers ms) = some (keyed (.index (value ds)) ms))
    ∧ ∀ (buffer : List Byte) (k : Keyed), readNumber buffer = some k →
        ∃ ds ms : List Byte, digits ds ∧ fit ms
          ∧ ((ds.length = 7 ∧ buffer = ds ++ markers ms ∧ k = keyed (.number (value ds)) ms)
            ∨ (ds.length = 4 ∧ value ds ≤ 4095 ∧ buffer = [0x2A, 0x2A] ++ ds ++ markers ms
                ∧ k = keyed (.index (value ds)) ms)))
  ∧ (
    ∀ (phrases : Table (List Byte)) (limit depth : Nat) (rest out : List Byte),
      let ref := walkReference phrases limit depth
      let write (c : Byte) : Except ECode (List Byte) :=
        if out.length < limit then walkText limit ref rest (out ++ [c]) else .error .e07
      (∀ raw, expandBody phrases limit raw = walkText limit (walkReference phrases limit 2) raw [])
      ∧ walkText limit ref [] out = .ok out
      ∧ (∀ c : Byte, c ≠ 0x2A → walkText limit ref (c :: rest) out = write c)
      ∧ (∀ c : Byte, c = 0x2A ∨ c = 0x23 ∨ c = 0x2D → walkText limit ref (0x2A :: c :: rest) out = write c)
      ∧ walkText limit ref (0x2A :: 0x5F :: rest) out = write 0x20
      ∧ (∀ c d : Byte, 0x30 ≤ c.toNat → c.toNat ≤ 0x39 → 0x30 ≤ d.toNat → d.toNat ≤ 0x39 →
          walkText limit ref (0x2A :: c :: d :: rest) out
            = match ref ((c.toNat - 0x30) * 10 + (d.toNat - 0x30)) out with
              | .ok more => walkText limit ref rest more
              | .error e => .error e)
      ∧ ∀ p : Nat,
          walkReference phrases limit 0 p out = .error .e06
          ∧ (Table.get phrases p = none → walkReference phrases limit (depth + 1) p out = .error .e05)
          ∧ ∀ text, Table.get phrases p = some text →
              walkReference phrases limit (depth + 1) p out = walkText limit ref text out)
  ∧ escapeState [] = some .plain
  ∧ ∀ (raw : List Byte) (c : Byte),
      (escapeState raw = none → escapeState (raw ++ [c]) = none)
      ∧ (escapeState raw = some .plain → escapeState (raw ++ [c]) = some (if c = 0x2A then .star else .plain))
      ∧ (escapeState raw = some .star →
          escapeState (raw ++ [c])
            = (if c = 0x2A ∨ c = 0x23 ∨ c = 0x2D ∨ c = 0x5F then some .plain
              else if 0x30 ≤ c.toNat ∧ c.toNat ≤ 0x39 then some .digit else none))
      ∧ (escapeState raw = some .digit →
          escapeState (raw ++ [c]) = (if 0x30 ≤ c.toNat ∧ c.toNat ≤ 0x39 then some .plain else none))
/-! ## Intake lines: bodies and admission -/

/-- LINE_CHARACTER_CONSUMED outside the body stage: CR and LF on a CONSOLE line, and any byte in CLOSED or ADMIT_WAIT, are discarded;
in SKIP the first # leads to AWAIT_NUMBER; in the number stage digits and * are collected up to sixteen, and any other character,
or a seventeenth, gives E13 and SKIP (R22, R27, R30, R21, R26). A loss mark sets the overrun latch after the byte is handled. In the
body stage: a character the line's class accepts, in or out of an escape, is collected up to 480; an illegal character or escape gives
E13 and a character beyond 480 E07, both with SKIP (R29, R26). An illegal character that is also the 481st gives E13 (the model's
choice, log 27), as is the whole token of a prompt on TXD (log 38). -/
def Obligations.NumberAndBodyStagesCollectCharacters : Prop :=
  (
    ∀ (s : State) (n : LineId) (c : Byte) (mark : Bool), Consumable s n c mark → c ≠ 0x11 → c ≠ 0x12 →
      let l := afterByte (s.line n)
      let consoleBreak := l.cls = .console ∧ (c = 0x0D ∨ c = 0x0A)
      let latch := l.overrunLatch || mark
      let number (buffer : List Byte) : Prop :=
        let good := (0x30 ≤ c.toNat ∧ c.toNat ≤ 0x39) ∨ c = 0x2A
        (good → buffer.length < 16 → exec (.lineCharacterConsumed n) s
          = .next
              (pump
                (s.setLine n
                  { l with
                    asm := .number (buffer ++ [c]), overrunLatch := latch
                    timer := some (s.sys.base + l.entryTimeout * 1000) })))
        ∧ (c ≠ 0x23 → (¬ good ∨ 16 ≤ buffer.length) → exec (.lineCharacterConsumed n) s
          = .next (pump (s.setLine n (prompted l (.e .e13) .skip latch))))
      (consoleBreak ∨ l.asm = .closed ∨ (∃ h kind text, l.asm = .admitWait h kind text) →
        exec (.lineCharacterConsumed n) s = .next (pump (s.setLine n { l with overrunLatch := latch })))
      ∧ (¬ consoleBreak → l.asm = .skip →
        (c = 0x23 → exec (.lineCharacterConsumed n) s
          = .next
              (pump
                (s.setLine n
                  { l with
                    asm := .awaitNumber, overrunLatch := mark, timer := some (s.sys.base + l.idleTimeout * 1000) })))
        ∧ (c ≠ 0x23 → exec (.lineCharacterConsumed n) s
          = .next (pump (s.setLine n { l with overrunLatch := latch }))))
      ∧ (¬ consoleBreak → l.asm = .awaitNumber → number [])
      ∧ ∀ buffer, ¬ consoleBreak → l.asm = .number buffer → number buffer)
  ∧ (
    ∀ (s : State) (n : LineId) (c : Byte) (mark : Bool) (h : EntryHead) (raw : List Byte) (e : EscapeState),
      Consumable s n c mark → c ≠ 0x11 → c ≠ 0x12 →
      (s.line n).asm = .body h raw ∨ (s.line n).asm = .awaitBody h ∧ raw = [] → escapeState raw = some e →
      let l := afterByte (s.line n)
      let latch := l.overrunLatch || mark
      let isDigit := 0x30 ≤ c.toNat ∧ c.toNat ≤ 0x39
      let typed := match l.cls with
        | .caller => isDigit ∨ c = 0x2A ∨ c = 0x23
        | .console => 0x20 ≤ c.toNat ∧ c.toNat ≤ 0x7E
      let escape := match e with
        | .plain => True
        | .star => c = 0x2A ∨ c = 0x23 ∨ c = 0x2D ∨ c = 0x5F ∨ isDigit
        | .digit => isDigit
      let ends := c = 0x23 ∧ e = .plain
      ¬ (l.cls = .console ∧ (c = 0x0D ∨ c = 0x0A)) → ¬ ends →
      (typed → escape → raw.length < 480 → exec (.lineCharacterConsumed n) s
        = .next
            (pump
              (s.setLine n
                { l with
                  asm := .body h (raw ++ [c]), overrunLatch := latch
                  timer := some (s.sys.base + l.entryTimeout * 1000) })))
      ∧ (typed → escape → 480 ≤ raw.length → exec (.lineCharacterConsumed n) s
        = .next (pump (s.setLine n (prompted l (.e .e07) .skip latch))))
      ∧ (¬ typed ∨ ¬ escape → exec (.lineCharacterConsumed n) s
        = .next (pump (s.setLine n (prompted l (.e .e13) .skip latch)))))

/-- The # that ends a body: E11 with the overrun latch set, else the code of an expansion that fails, else admission: its pages are
created and prompt A given, E09 puts a CONSOLE line into the wait list for at most 30 s, and any other refusal, E09 on a CALLER
line included, gives prompt E. But for the wait the line waits for a number again (R33, R34, R25, R21, R44 to R48; the started tens of a body
of 221 to 230 characters are the model's choice, log 42, as is the whole token of a prompt on TXD, log 38). -/
def Obligations.EntriesEndInAdmission : Prop :=
  ∀ (s : State) (n : LineId) (mark : Bool) (h : EntryHead) (raw : List Byte), Consumable s n 0x23 mark →
    (s.line n).asm = .body h raw ∨ (s.line n).asm = .awaitBody h ∧ raw = [] → escapeState raw = some .plain →
    let l := afterByte (s.line n)
    let consumed := s.setLine n l
    let refused (e : ECode) : Prop :=
      exec (.lineCharacterConsumed n) s = .next (pump (s.setLine n (prompted l (.e e) .awaitNumber mark)))
    (l.overrunLatch = true → refused .e11)
    ∧ (∀ e, l.overrunLatch = false → expandBody s.intake.phrases h.limit raw = .error e → refused e)
    ∧ ∀ text, l.overrunLatch = false → expandBody s.intake.phrases h.limit raw = .ok text →
      let q := requestOf n h text
      (∀ e, Refuses s q e → (e ≠ .e09 ∨ l.cls = .caller) → refused e)
      ∧ (Refuses s q .e09 → l.cls = .console → ∃ t, exec (.lineCharacterConsumed n) s = .next (pump t)
          ∧ t.line n
              = { l with
                  asm := .admitWait h (bodyKindOf text) text, timer := none, overrunLatch := mark
                  waitLimit := some (s.sys.base + 30000) }
          ∧ (∀ m : LineId, m ≠ n → t.line m = s.line m)
          ∧ t.intake.waitList = s.intake.waitList ++ [n]
          ∧ t = { s with intake := { s.intake with lines := t.intake.lines, waitList := t.intake.waitList } })
      ∧ ∀ u x plan, Accepts s q u x plan → s.liveTickets.length ≤ 2048 → ∃ t refs,
          PagesAdmitted consumed t q u plan refs
          ∧ exec (.lineCharacterConsumed n) s
              = .next
                  (pump (t.setLine n (prompted l (.a (refs.headD 0) refs.length) .awaitNumber mark)))
/-! ## Intake lines: prompts, timers and the wait list -/

/-- While a prompt is in progress the line's TXD carries its token, ended by CR: N, M, T and X, A with the first reference in five digits
and the count, E with the code in two (R25); PROMPT_SENT ends the prompt and starts the timer of a timed state on a line not paused; ENTRY_TIMEOUT, at the timer's
end, gives T and waits for a number; IDLE_TIMEOUT gives X and the line is CLOSED; each changes nothing where no prompt is in
progress, or no timer of its state runs (R25, R26, R21). ADMIT_WAIT_RETRY makes the head's admission again with the entry it
kept: accepted, the line leaves the list with prompt A; E09 keeps it at the head; any other code sends it away with prompt E.
ADMIT_WAIT_LIMIT, at the limit's end, sends a line away with E09. (R35, R36; one retry is owed for each announcement, log
20; that TXD holds the whole token while the prompt is in progress, and nothing once it has been sent, is the model's choice, log 38; time
passing up to a timer's end is log 3, the clauses of no change log 4; the started tens of a body of 221 to 230 characters log 42.) -/
def Obligations.LineTimersAndTheWaitListAct : Prop :=
  (
    ∀ (s : State) (n : LineId),
      let l := s.line n
      (l.prompt = none → exec (.promptSent n) s = .next s)
      ∧ (l.prompt ≠ none → exec (.promptSent n) s
        = .next
            (pump
              (s.setLine n
                { l with
                  prompt := none, txd := []
                  timer :=
                    if l.paused then none
                    else
                      match l.asm with
                      | .awaitNumber => some (s.sys.base + l.idleTimeout * 1000)
                      | .number _ | .awaitBody _ | .body _ _ => some (s.sys.base + l.entryTimeout * 1000)
                      | _ => none })))
      ∧ (∀ ends, l.timer = some ends →
          ((∃ b, l.asm = .number b) ∨ (∃ h, l.asm = .awaitBody h) ∨ ∃ h raw, l.asm = .body h raw) →
          exec (.entryTimeout n) s
            = .next (pump ((elapseTo s ends).setLine n (prompted l .t .awaitNumber false)))
          ∧ exec (.idleTimeout n) s = .next s)
      ∧ (∀ ends, l.timer = some ends → l.asm = .awaitNumber →
          exec (.idleTimeout n) s
            = .next (pump ((elapseTo s ends).setLine n (prompted l .x .closed l.overrunLatch)))
          ∧ exec (.entryTimeout n) s = .next s)
      ∧ (l.timer = none → exec (.entryTimeout n) s = .next s ∧ exec (.idleTimeout n) s = .next s))
  ∧ (
    ∀ (s : State) (n : LineId),
      (∀ more h kind text, s.intake.waitList = n :: more → (s.line n).asm = .admitWait h kind text →
        kind = bodyKindOf text → s.port.mode = .running → 0 < s.intake.announcements →
        let q := requestOf n h text
        let spent := s.setIntake { s.intake with announcements := s.intake.announcements - 1 }
        (Refuses s q .e09 → exec .admitWaitRetry s = .next (pump spent))
        ∧ (∀ e, Refuses s q e → e ≠ .e09 → ∃ t, exec .admitWaitRetry s = .next (pump t)
            ∧ t.line n = prompted (s.line n) (.e e) .awaitNumber false ∧ LeftWait s t n
            ∧ (∀ m : LineId, m ≠ n → t.line m = s.line m)
            ∧ t = { s with intake := { t.intake with phrases := s.intake.phrases } })
        ∧ ∀ u x plan, Accepts s q u x plan → s.liveTickets.length ≤ 2048 → ∃ v t refs,
            PagesAdmitted spent v q u plan refs
            ∧ exec .admitWaitRetry s = .next (pump t)
            ∧ t.line n = prompted (s.line n) (.a (refs.headD 0) refs.length) .awaitNumber false ∧ LeftWait s t n
            ∧ (∀ m : LineId, m ≠ n → t.line m = s.line m)
            ∧ t = { v with intake := { t.intake with phrases := s.intake.phrases } })
      ∧ (s.intake.waitList = [] ∨ s.intake.announcements = 0 ∨ s.port.mode = .standby → exec .admitWaitRetry s = .next s)
      ∧ ((s.line n).waitLimit = none → exec (.admitWaitLimit n) s = .next s)
      ∧ ∀ ends, (s.line n).waitLimit = some ends → ∃ t, exec (.admitWaitLimit n) s = .next (pump t)
          ∧ t.line n = prompted (s.line n) (.e .e09) .awaitNumber false ∧ LeftWait s t n
          ∧ (∀ m : LineId, m ≠ n → t.line m = s.line m)
          ∧ t = { elapseTo s ends with intake := { t.intake with phrases := s.intake.phrases } })
  ∧ (
    let digit (x : Nat) : Byte := BitVec.ofNat 8 (0x30 + x % 10)
    Prompt.token .n = [0x4E, 0x0D] ∧ Prompt.token .m = [0x4D, 0x0D] ∧ Prompt.token .t = [0x54, 0x0D]
      ∧ Prompt.token .x = [0x58, 0x0D]
      ∧ (∀ r g : Nat, r ≤ 65535 → 1 ≤ g → g ≤ 16 →
          Prompt.token (.a r g)
            = [0x41, 0x20, digit (r / 10000), digit (r / 1000), digit (r / 100), digit (r / 10), digit r, 0x20]
              ++ (if g < 10 then [digit g] else [0x31, digit g]) ++ [0x0D])
      ∧ [ECode.e01, .e02, .e03, .e04, .e05, .e06, .e07, .e08, .e09, .e10, .e11, .e12, .e13].map (fun e => Prompt.token (.e e))
          = (List.range 13).map fun k => [0x45, 0x20, digit ((k + 1) / 10), digit (k + 1), 0x0D])

/-! ## Events of pages and reports -/

/-- RETRY_DUE, in RUNNING with a clock that runs, takes the head of the retry-due list at its time and starts an attempt with the
congestion test. TICKET_WAIT_SERVICE, while the pool holds a ticket, serves the pages of the ticket-wait list from its head until the
list or the pool is empty, each leaving WAIT_TICKET by an attempt start without the test. Otherwise they change nothing (R155, R156,
R159, R104; one command serves the whole list, log 31; time passing up to the due time is log 3, no change otherwise log 4; a start that
asks for no ticket sets aired this attempt to no, log 52). -/
def Obligations.AttemptsStartFromTheLists : Prop :=
  ∀ s : State,
    (∀ due r rest p u q, s.sched.retryDue = (due, r) :: rest → s.port.mode = .running → s.sys.clock ≠ none →
      s.page r = some p → s.sub p.subscriber = some u → u.body = .pager q → ChannelLaw s →
      let now := elapseUntil s due
      ∃ t, exec .retryDue s = .next (pump t)
        ∧ AttemptStarted (now.setSched { s.sched with retryDue := rest }) t r p q true)
    ∧ (s.sched.retryDue = [] ∨ s.port.mode = .standby ∨ s.sys.clock = none → exec .retryDue s = .next s)
    ∧ (s.dispatch.ticketWait = [] ∨ s.port.mode = .standby ∨ 2048 ≤ s.liveTickets.length →
        exec .ticketWaitService s = .next s)
    ∧ (∀ r p u q, s.dispatch.ticketWait = [r] → s.port.mode = .running → s.liveTickets.length < 2048 →
      s.page r = some p → s.sub p.subscriber = some u → u.body = .pager q → ChannelLaw s →
      ∃ t, exec .ticketWaitService s = .next (pump t)
        ∧ AttemptStarted (s.setDispatch { s.dispatch with ticketWait := [] }) t r p q false)
    ∧ (s.dispatch.ticketWait ≠ [] → s.dispatch.ticketWait.Nodup → s.port.mode = .running → s.liveTickets.length < 2048 →
      (∀ r ∈ s.dispatch.ticketWait, ∃ p u q, s.page r = some p ∧ s.sub p.subscriber = some u ∧ u.body = .pager q) →
      ∃ t served left, exec .ticketWaitService s = .next (pump t)
        ∧ s.dispatch.ticketWait = served ++ left ∧ t.dispatch.ticketWait = left ∧ served ≠ []
        ∧ (left = [] ∨ 2048 ≤ t.liveTickets.length)
        ∧ (∀ r ∈ served, ∃ p, t.page r = some p ∧ (p.state = .attempt ∨ p.state = .retryWait))
        ∧ (∀ r, r ∉ served → t.page r = s.page r)
        ∧ (ChannelLaw s → InTurn ServedAttempt served s t))
/-- ACK_DEADLINE, in RUNNING with a clock that runs, takes the head of its list at its time: the attempt is counted, and below the
attempt limit the page waits its back-off with its stage widened, at the limit it goes HELD while its subscriber has hold enabled and
fewer than eight pages held, else it is UNDELIVERABLE. EXPIRY takes the head of its list and ends the page EXPIRED (R155, R163, R164,
R57, R165, R53, R54, R72, R43; time passing up to the due time is the model's choice, log 3). Of an outcome, the announcements to a
waiting line are counted by log 20, JOURNAL-HIGH stands before LOW-BALANCE by log 36, and the tickets are given up in the zones' order
of log 41, a waiting BATCH frame by log 44. -/
def Obligations.DeadlinesAndExpiriesAreTaken : Prop :=
  ∀ (s : State) (due r : Nat) (rest : List (Nat × Nat)) (p : Page),
    s.port.mode = .running → s.sys.clock ≠ none → s.page r = some p →
    let now := elapseUntil s due
    (s.sched.ackDeadline = (due, r) :: rest → p.state = .awaitAck →
      let taken := now.setSched { s.sched with ackDeadline := rest }
      let n := p.attempts + 1
      let c := s.params p.cls
      let canHold := (∃ u q, s.sub p.subscriber = some u ∧ u.body = .pager q ∧ q.hold = true)
        ∧ (s.mailbox p.subscriber).length < 8
      (n < c.attemptLimit → ∃ t, exec .ackDeadline s = .next (pump t)
        ∧ WaitsForRetry taken t r { p with attempts := n, stage := min n 2 }
            (min c.retryCap (c.retryBase * 2 ^ (n - 1)))
        ∧ (∀ m, m ≠ r → t.page m = s.page m)
        ∧ t = { taken with store := { s.store with pages := t.store.pages }
                           sched := { taken.sched with retryDue := t.sched.retryDue } })
      ∧ (c.attemptLimit ≤ n → canHold → ∃ t, exec .ackDeadline s = .next (pump t)
        ∧ t.page r = some { p with attempts := n, state := .held, retryDue := none, ackDeadline := none }
        ∧ t.mailbox p.subscriber = s.mailbox p.subscriber ++ [r]
        ∧ (∀ m, m ≠ r → t.page m = s.page m) ∧ (∀ i, i ≠ p.subscriber → t.mailbox i = s.mailbox i)
        ∧ t = { taken with store := { t.store with refCounter := s.store.refCounter } })
      ∧ (c.attemptLimit ≤ n → ¬ canHold → ∃ t, exec .ackDeadline s = .next (pump t)
        ∧ OutcomeReached taken t r { p with attempts := n, ackDeadline := none } .undeliverable none))
    ∧ (s.sched.expiry = (due, r) :: rest → ∃ t, exec .expiry s = .next (pump t)
        ∧ OutcomeReached (now.setSched { s.sched with expiry := rest }) t r p .expired none)
/-- With an empty list, in STANDBY or with the clock UNSET, ACK_DEADLINE and EXPIRY change nothing; ACK_TAKEN and REGISTER_TAKEN change
nothing in STANDBY or where the head of the return queue is no such report. ACK_TAKEN takes an ACK from the head: from the pager of
the live page it names it delivers the page, a REPLY being notified after the settlement; from another it raises UNMATCHED-ACK, and for
no live page LATE-ACK. REGISTER_TAKEN takes a REGISTER: a TWO_WAY subscriber's registration is written and its mailbox released, each
page starting afresh; any other address raises UNMATCHED-REGISTER (R150 to R153, R155, R57). That the four change nothing where their
event cannot happen is the model's choice (log 4). Of a mailbox of any number of pages the last clause says that each is released in turn,
oldest first, by an attempt start (R57; that a start which gets no ticket sets aired this attempt to no is log 52). Of an outcome,
announcements are counted by log 20, JOURNAL-HIGH stands before LOW-BALANCE by log 36, and tickets are given up by logs 41 and 44. -/
def Obligations.ReturnReportsAreTaken : Prop :=
  ∀ s : State,
    (s.sched.ackDeadline = [] ∨ s.port.mode = .standby ∨ s.sys.clock = none → exec .ackDeadline s = .next s)
    ∧ (s.sched.expiry = [] ∨ s.port.mode = .standby ∨ s.sys.clock = none → exec .expiry s = .next s)
    ∧ ((s.port.mode = .standby ∨ ∀ air r choice zone, s.returns.head? ≠ some (.ack air r choice zone)) →
        exec .ackTaken s = .next s)
    ∧ ((s.port.mode = .standby ∨ ∀ air zone, s.returns.head? ≠ some (.register air zone)) →
        exec .registerTaken s = .next s)
    ∧ (∀ air r choice zone rest, s.returns = .ack air r choice zone :: rest → s.port.mode = .running →
      let taken := s.setReturns rest
      (s.page r = none → exec .ackTaken s = .next (pump (raise taken (.lateAck air r choice zone))))
      ∧ ∀ p u q, s.page r = some p → s.sub p.subscriber = some u → u.body = .pager q →
        (q.air ≠ air → exec .ackTaken s
          = .next (pump (raise taken (.unmatchedAck air r choice zone (Table.get s.dir.airMap air)))))
        ∧ (q.air = air → ∃ t, OutcomeReached taken t r p .delivered (some zone)
            ∧ exec .ackTaken s
              = .next
                  (pump
                    (match choice with
                      | some c => raise t (.reply r p.subscriber p.via c zone)
                      | none => t))))
    ∧ ∀ air zone rest, s.returns = .register air zone :: rest → s.port.mode = .running →
      let taken := s.setReturns rest
      (Table.get s.dir.airMap air = none →
        exec .registerTaken s = .next (pump (raise taken (.unmatchedRegister air zone none))))
      ∧ ∀ i u q, Table.get s.dir.airMap air = some i → s.sub i = some u → u.body = .pager q →
        (q.kind ≠ .twoWay → exec .registerTaken s
          = .next (pump (raise taken (.unmatchedRegister air zone (some (i, u.kind))))))
        ∧ (q.kind = .twoWay →
          let q' := { q with lastReg := some (zone, s.seconds) }
          let registered := taken.setDir
            { s.dir with subs := Table.set s.dir.subs i { u with body := .pager q' } }
          (s.mailbox i = [] → Table.get s.store.mailboxes i = none →
            exec .registerTaken s = .next (pump registered))
          ∧ (∀ r p, s.mailbox i = [r] → s.page r = some p → p.subscriber = i → ChannelLaw s →
            ∃ v t, exec .registerTaken s = .next (pump t)
              ∧ v.mailbox i = [] ∧ (∀ j, j ≠ i → v.mailbox j = s.mailbox j)
              ∧ v.page r = some { p with attempts := 0, stage := 0 } ∧ (∀ n, n ≠ r → v.page n = s.page n)
              ∧ v = { registered with store := { v.store with refCounter := s.store.refCounter } }
              ∧ AttemptStarted v t r { p with attempts := 0, stage := 0 } q' false)
          ∧ ∃ v t, exec .registerTaken s = .next (pump t) ∧ t.mailbox i = [] ∧ t.dir = registered.dir
              ∧ v.mailbox i = [] ∧ (∀ j, j ≠ i → v.mailbox j = s.mailbox j)
              ∧ v = { registered with store := { s.store with mailboxes := v.store.mailboxes } }
              ∧ (ChannelLaw s → (∀ r ∈ s.mailbox i, ∃ p, s.page r = some p ∧ p.subscriber = i) →
                  InTurn ReleasedAttempt (s.mailbox i) v t)
              ∧ (∀ r ∈ s.mailbox i, ∀ p, s.page r = some p → p.subscriber = i → ∃ p', t.page r = some p'
                  ∧ p'.attempts = 0 ∧ p'.stage = 0
                  ∧ (p'.state = .attempt ∨ p'.state = .waitTicket ∨ p'.state = .retryWait))
              ∧ ∀ r, r ∉ s.mailbox i → t.page r = s.page r)
/-! ## Events of zones, groups and site links -/

/-- The ticket due in a zone is the head of the EMERGENCY queue, else of PRIORITY and NORMAL by turns, three PRIORITY to one NORMAL, an
empty queue passing its turn, each ticket taken advancing the turn (R108). A batch is filled by `BatchFilled`: it takes the tickets due
while they fit, 32 tickets and 128 slots at most, and is judged by its hold (R107 to R109). A ticket is placed, while the pool holds one
and the zone takes tickets, at the tail of its class queue and offered at once to the zone's batch (R103, R107); a batch that closes
so asks its group and is granted at once by a FREE group (R118, R121). A page's tickets given up leave the queues and the unsent batch, which
is judged afresh, or discarded with its request when none is left (R53, R106, R109); the zones in ascending number are the model's
choice (log 41), as is a waiting BATCH frame that takes the place of an earlier one at its link (log 44). -/
def Obligations.BatchesTakeTicketsInTurn : Prop :=
  (
    ∀ r : ZoneRec,
      (∀ k more, r.emergency = k :: more → r.due = some (k, { r with emergency := more }))
      ∧ (∀ k more, r.emergency = [] → r.priority = k :: more → (r.normal = [] ∨ r.pattern ≠ 3) →
          r.due = some (k, { r with priority := more, pattern := r.pattern + 1 }))
      ∧ (∀ k more, r.emergency = [] → r.normal = k :: more → (r.priority = [] ∨ r.pattern = 3) →
          r.due = some (k, { r with normal := more, pattern := r.pattern + 1 }))
      ∧ (r.emergency = [] → r.priority = [] → r.normal = [] → r.due = none))
  ∧ (∀ (s : State) (z : Zone), BatchFilled s (fillCore s z) z)
  ∧ (
    ∀ (s : State) (k : Ticket) (z : Zone), ChannelLaw s →
      let r := s.zone z
      let takes := (r.state = .inService ∨ r.state = .settling) ∧ s.liveTickets.length < 2048
      let queued : ZoneRec := match k.cls with
        | .emergency => { r with emergency := r.emergency ++ [k] }
        | .priority => { r with priority := r.priority ++ [k] }
        | .normal => { r with normal := r.normal ++ [k] }
      (takes → ∃ t, placeTicket s k z = (t, 1) ∧ FilledAndAsked (s.setZone z queued) t z)
      ∧ (¬ takes → placeTicket s k z = (s, 0)))
  ∧ (
    ∀ (s : State) (k : Ticket),
      placeTickets s k [] = (s, 0)
        ∧ ∀ z more, placeTickets s k (z :: more)
          = ((placeTickets (placeTicket s k z).1 k more).1,
              (placeTicket s k z).2 + (placeTickets (placeTicket s k z).1 k more).2))
  ∧ (
    ∀ (s : State) (n : Nat) (z : Zone), ChannelLaw s →
      let r := s.zone z
      let g := r.homeGroup
      let kept (l : List Ticket) : List Ticket := l.filter fun k => k.reference != n
      let given : ZoneRec :=
        { r with
          emergency := kept r.emergency, priority := kept r.priority, normal := kept r.normal
          making := r.making.map fun b => { b with tickets := kept b.tickets }
          site := r.site.map fun b =>
            { b with tickets := b.tickets.map fun k => if k.reference = n then { k with orphan := true } else k } }
      (∀ b, r.making = some b → (∃ k ∈ b.tickets, k.reference = n) →
        (kept b.tickets ≠ [] → FilledAndAsked (s.setZone z given) (giveUpZone s n z) z)
        ∧ (kept b.tickets = [] → b.closed = false →
            FilledAndAsked (s.setZone z { given with making := none }) (giveUpZone s n z) z)
        ∧ (kept b.tickets = [] → b.closed = true →
            FilledAndAsked
              ((s.setZone z { given with making := none }).setGroup g
                { s.group g with requests := ZoneSet.remove (s.group g).requests z })
              (giveUpZone s n z) z))
      ∧ ((∀ b, r.making = some b → ∀ k ∈ b.tickets, k.reference ≠ n) → giveUpZone s n z = s.setZone z given))
  ∧ ∀ (s : State) (n : Nat), giveUpTickets s n = ([0, 1, 2, 3, 4, 5, 6, 7] : List Zone).foldl (fun s z => giveUpZone s n z) s
/-- BATCH_HOLD_EXPIRY closes an OPEN batch at the end of the hold of its highest class: with its group not FREE its request waits, else it
is handed over. GUARD_EXPIRY frees a group with no request, and with requests grants the first zone behind the pointer whose CLOSED
batch holds an EMERGENCY ticket, else the first. The zone's next batch is filled from its queues within the event (R109, R118, R120,
R121, R123, R110, R107, R131). Time passing up to the end is the model's choice (log 3), as is that the two change nothing with no
OPEN batch, or no guard (log 4), and a waiting BATCH frame that takes the place of an earlier one at its link (log 44). -/
def Obligations.TheChannelIsAskedForAndGranted : Prop :=
  ∀ (s : State), ChannelLaw s →
    (∀ (z : Zone) (b : MakingBatch), (s.zone z).making = some b → b.closed = false →
      let holds (c : PageClass) : Prop := ∃ k ∈ b.tickets, k.cls = c
      ∀ ends : Nat,
        (holds .emergency → ends = b.opened) → (¬ holds .emergency → holds .priority → ends = b.opened + b.priorityHold) →
        (¬ holds .emergency → ¬ holds .priority → ends = b.opened + b.normalHold) →
        let now := elapseTo s ends
        let closed := now.setZone z { s.zone z with making := some { b with closed := true } }
        let g := (s.zone z).homeGroup
        ((s.group g).state ≠ .free → exec (.batchHoldExpiry z) s
          = .next (pump (closed.setGroup g { s.group g with requests := ZoneSet.add (s.group g).requests z })))
        ∧ ((s.group g).state = .free → ∀ entries, EntriesOf s b.tickets entries →
          ∃ t, exec (.batchHoldExpiry z) s = .next (pump t) ∧ HandedOver closed t z b entries))
    ∧ (∀ z : Zone, (∀ b, (s.zone z).making = some b → b.closed = true) → exec (.batchHoldExpiry z) s = .next s)
    ∧ ∀ g : GroupId,
      ((∀ ends, (s.group g).state ≠ .guarding ends) → exec (.guardExpiry g) s = .next s)
      ∧ ∀ ends, (s.group g).state = .guarding ends →
        let now := elapseTo s ends
        ((s.group g).requests = 0 →
          exec (.guardExpiry g) s = .next (pump (now.setGroup g { s.group g with state := .free })))
        ∧ ∀ (earlier later : List Zone) (z : Zone) (b : MakingBatch) (entries : List BatchEntry),
          let urgent (y : Zone) : Prop := ∃ c, (s.zone y).making = some c ∧ ∃ k ∈ c.tickets, k.cls = .emergency
          (allZones.map fun k => (s.group g).pointer + 1 + k).filter (fun y => ZoneSet.mem (s.group g).requests y)
            = earlier ++ z :: later →
          ((urgent z ∧ ∀ y ∈ earlier, ¬ urgent y) ∨ (earlier = [] ∧ ∀ y ∈ z :: later, ¬ urgent y)) →
          (s.zone z).making = some b → EntriesOf s b.tickets entries →
          ∃ t, exec (.guardExpiry g) s = .next (pump t) ∧ HandedOver now t z b entries
/-- DRAIN_TIMEOUT ends a drain at its timer's end: OUT_OF_SERVICE, the batch at the site abandoned, the change and the drain's end notified
with the counts of its tickets, behind the notices of their pages (log 21).
The link is as the abandonment leaves it: no batch, ST kept, and by the batch's state a resync begun, resync pending as it was, or the
carrier timer in no-batch mode or stopped. SETTLE_WINDOW_EXPIRY ends SETTLING at the window's end: IN_SERVICE, and FWD-POWER-LOW takes
its last reported value and acts by its action. Time passing up to the end is the model's choice (log 3), as is that they change
nothing in any other state (log 4) (R99, R101, R111, R134, R135, R140). -/
def Obligations.ZoneTimersMoveTheZone : Prop :=
  ∀ (s : State) (z : Zone) (ends : Nat),
    let now := elapseTo s ends
    ((s.zone z).drainTimer = none ∨ (s.zone z).state ≠ .draining → exec (.drainTimeout z) s = .next s)
    ∧ ((s.zone z).drainTimer = some ends → (s.zone z).state = .draining → (s.zone z).making = none →
      (s.zone z).queued = [] → ∃ t, exec (.drainTimeout z) s = .next (pump t)
        ∧ (t.zone z).state = .outOfService ∧ (t.zone z).drainTimer = none ∧ SiteCleared now t z
        ∧ t.link z = leftLink now z
        ∧ (∀ y : Zone, y ≠ z → (t.zone y).state = (s.zone y).state)
        ∧ Notified s t (3 * (s.zone z).atSite.length + 2)
            (DrainNotified t z .timedOut (s.zone z).atSite ((s.zone z).site.any (·.onAir)))
        ∧ ∀ b n, (s.zone z).site = some b →
            (b.onAir = true → ReportedAired now t b.tickets n) ∧ (b.onAir = false → ReportedNotAired now t b.tickets n))
    ∧ ((s.link z).settle = none ∨ (s.zone z).state ≠ .settling → exec (.settleWindowExpiry z) s = .next s)
    ∧ ((s.link z).settle = some ends → (s.zone z).state = .settling →
      let low := ∃ x, (s.link z).last = some x ∧ x.fwdPowerLow = true
      let f := (s.link z).fault .fwdPowerLow
      let moved :=
        (raise (now.setZone z { s.zone z with state := .inService }) (.zoneState z .settling .inService .settled)).setLink z
          { s.link z with settle := none }
      (¬ low → exec (.settleWindowExpiry z) s
        = .next
            (pump (moved.setLink z ({ s.link z with settle := none }.setFault .fwdPowerLow { f with present := false }))))
      ∧ (low → f.present = false → ∃ t, exec (.settleWindowExpiry z) s = .next (pump t)
          ∧ ConditionAppeared moved t z .fwdPowerLow))
/-- TAKE_TIMEOUT, SILENCE_TIMEOUT and RESYNC_TIMEOUT, each at its timer's end, make LINK_LOST present with resync pending and the silence
and resync timers stopped; CARRIER_TIMEOUT makes CARRIER_STUCK present with the carrier timer stopped: so the link stands in every case,
whether the condition takes the zone out, which abandons the batch at its site, or not. A timer that does not run, or a resync no longer
pending, changes no condition (R133, R134, R135, R136, R139, R100; time passing up to the end is log 3, a timer that does not run changing
nothing log 4). These timeouts and faults meet a site that departs from R138. -/
def Obligations.LinkTimersRaiseFaults : Prop :=
  ∀ (s : State) (z : Zone) (ends : Nat),
    let l := s.link z
    let now := elapseTo s ends
    let lost := { l with resyncPending := true, silence := none, resync := none }
    let outOfStep (m : LinkRec) := m.resyncPending = true ∧ m.silence = none ∧ m.resync = none ∧ m.st = l.st
    (l.take = none → exec (.takeTimeout z) s = .next s)
    ∧ (l.take = some ends → ∃ t, exec (.takeTimeout z) s = .next (pump t)
        ∧ ConditionAppeared (now.setLink z { lost with take := none }) t z .linkLost
        ∧ outOfStep (t.link z) ∧ (t.link z).take = none)
    ∧ (l.silence = none → exec (.silenceTimeout z) s = .next s)
    ∧ (l.silence = some ends → ∃ t, exec (.silenceTimeout z) s = .next (pump t)
        ∧ ConditionAppeared (now.setLink z lost) t z .linkLost ∧ outOfStep (t.link z))
    ∧ (l.resync = none → exec (.resyncTimeout z) s = .next s)
    ∧ (l.resync = some ends → l.resyncPending = true → ∃ t, exec (.resyncTimeout z) s = .next (pump t)
        ∧ ConditionAppeared (now.setLink z lost) t z .linkLost ∧ outOfStep (t.link z))
    ∧ (l.resync = some ends → l.resyncPending = false →
        exec (.resyncTimeout z) s = .next (pump (now.setLink z { l with resync := none })))
    ∧ (l.carrier = none → exec (.carrierTimeout z) s = .next s)
    ∧ ∀ mode, l.carrier = some (mode, ends) → ∃ t, exec (.carrierTimeout z) s = .next (pump t)
        ∧ ConditionAppeared (now.setLink z { l with carrier := none }) t z .carrierStuck ∧ (t.link z).carrier = none
/-- POLL_SEND at its time sends a POLL with RA, RESYNC and ST as they stand, the next 200 ms later, or lets it wait behind a BATCH frame.
BATCH_FRAME_SENT sends a waiting POLL, then a waiting BATCH frame; with none waiting it starts the take timeout of 500 ms for a
batch SENT (R130, R131; the interval counted from the POLL's sending, the order of waiting frames and the start of the timeout as logs
17, 18 and 33 read them; that a waiting BATCH frame goes whatever batch the link then holds is the model's choice, log 44; time passing up
to the due time is log 3, no change with nothing due log 4). Every POLL so carries ST (R138). -/
def Obligations.FramesFollowOneAnother : Prop :=
  ∀ (s : State) (z : Zone),
    let l := s.link z
    let poll : List Byte :=
      siteFrame 0x02
        [(match l.ra with | none => 0 | some false => 2 | some true => 3) + (if l.resyncPending then 4 else 0)
          + (if l.st then 8 else 0)]
    (l.pollDue = none → exec (.pollSend z) s = .next s)
    ∧ (∀ due, l.pollDue = some due →
      let now := elapseTo s due
      exec (.pollSend z) s
        = .next
            (pump
              (now.setLink z
                (if l.sendingBatch then { l with pollWaiting := true, pollDue := none }
                else { l with tx := poll, pollWaiting := false, pollDue := some (max s.sys.base due + 200) }))))
    ∧ (l.sendingBatch = false → exec (.batchFrameSent z) s = .next s)
    ∧ (l.sendingBatch = true →
      let free : LinkRec :=
        if l.pollWaiting then
          { l with sendingBatch := false, tx := poll, pollWaiting := false, pollDue := some (s.sys.base + 200) }
        else { l with sendingBatch := false }
      exec (.batchFrameSent z) s
        = .next
            (pump
              (s.setLink z
                (match l.nextFrame, l.batch with
                  | some frame, _ => { free with sendingBatch := true, tx := frame, nextFrame := none }
                  | none, .sent => { free with take := some (s.sys.base + 500) }
                  | none, _ => free))))
/-- STATUS_RECEIVED in RUNNING with a frame whose CRC, kind, length and fields are right is a STATUS and is handled, whatever its reserved
flag bit and its padding bytes hold (R187); a frame of another
kind or length, with a wrong CRC or a field out of range, and a frame cut by a gap are discarded and counted. In STANDBY every byte
is discarded (R129, 12.3; kind and length are judged at the kind byte, log 16; 51 ms for a gap, log 3). -/
def Obligations.StatusFramesAreReceived : Prop :=
  ∀ (s : State) (z : Zone), (s.link z).rx = .hunt →
    let l := s.link z
    let discarded (t : State) : State := t.setLink z { l with discarded := min 65535 (l.discarded + 1) }
    let report (r : Report) (p1 p2 p3 p4 : Byte) : List Byte := match r with
      | .ack air n none y => 1 :: be 3 air ++ be 2 n ++ [0, p1, BitVec.ofNat 8 y.val]
      | .ack air n (some c) y => 1 :: be 3 air ++ be 2 n ++ [1, BitVec.ofNat 8 c, BitVec.ofNat 8 y.val]
      | .register air y => 2 :: be 3 air ++ [p1, p2, p3, p4, BitVec.ofNat 8 y.val]
    let fits (r : Report) : Prop := match r with
      | .ack air n none _ => air ≤ 4194303 ∧ 1 ≤ n ∧ n ≤ 65535
      | .ack air n (some c) _ => air ≤ 4194303 ∧ 1 ≤ n ∧ n ≤ 65535 ∧ 1 ≤ c ∧ c ≤ 4
      | .register air _ => air ≤ 4194303
    let bit (b : Bool) (x : Byte) : Byte := if b then x else 0
    let body (x : Status) (reserved : Bool) (padding : List (Byte × Byte × Byte × Byte)) : List Byte :=
      [bit x.carrier 1 + (bit x.tt 2 + (bit x.dt 4 + (bit x.resyncAck 8 + (bit x.fwdPowerLow 16
        + (bit x.reflectedHigh 32 + (bit x.siteAlarm 64 + bit reserved 128)))))), bit x.rt 1]
        ++ be 1 x.reports.length
        ++ (x.reports.zip padding).flatMap fun e => report e.1 e.2.1 e.2.2.1 e.2.2.2.1 e.2.2.2.2
    (∀ bytes, s.port.mode = .standby → exec (.statusReceived z bytes) s = .next (pump s))
    ∧ (s.port.mode = .running →
      (∀ (x : Status) (reserved : Bool) (padding : List (Byte × Byte × Byte × Byte)),
        x.reports.length ≤ 4 → (∀ r ∈ x.reports, fits r) → padding.length = x.reports.length →
        exec (.statusReceived z (siteFrame 0x03 (body x reserved padding))) s = .next (pump (handleStatus s z x)))
      ∧ (∀ (kind : Byte) (length : Nat), length < 65536 →
        kind ≠ 0x03 ∨ (length ≠ 4 ∧ length ≠ 13 ∧ length ≠ 22 ∧ length ≠ 31 ∧ length ≠ 40) →
        exec (.statusReceived z (0xC3 :: (be 2 length ++ [kind]))) s = .next (pump (discarded s)))
      ∧ (∀ (bytes : List Byte) (c1 c2 : Byte), bytes.length + 1 ∈ [4, 13, 22, 31, 40] →
        let content := be 2 (bytes.length + 1) ++ 0x03 :: bytes
        let good := [c1, c2] = be 2 (crc16 content).toNat
        let frame := 0xC3 :: (content ++ [c1, c2])
        (¬ good → exec (.statusReceived z frame) s = .next (pump (discarded s)))
        ∧ (good → (∀ flags rt count rest, bytes = flags :: rt :: count :: rest →
              2 ≤ rt.toNat ∨ 5 ≤ count.toNat ∨ rest.length ≠ 9 * count.toNat
                ∨ ∃ before kind a1 a2 a3 n1 n2 ack choice zone after,
                    rest = before ++ [kind, a1, a2, a3, n1, n2, ack, choice, zone] ++ after ∧ before.length % 9 = 0
                      ∧ ((kind ≠ 1 ∧ kind ≠ 2) ∨ 8 ≤ zone.toNat ∨ 0x40 ≤ a1.toNat
                        ∨ kind = 1 ∧ (n1 = 0 ∧ n2 = 0 ∨ 2 ≤ ack.toNat ∨ ack = 1 ∧ (choice = 0 ∨ 5 ≤ choice.toNat)))) →
            exec (.statusReceived z frame) s = .next (pump (discarded s)))
        ∧ ∀ k : Nat, 1 ≤ k → k < frame.length →
            exec (.siteFrameGap z (frame.take k)) s = .next (pump (discarded (elapse s 51)))))
/-- What a STATUS does at its link whatever batch is there: the silence timer restarts; while resync is pending, RESYNC-ACK with TT and DT
equal to ST completes it, LINK_LOST ends, and a withheld BATCH frame is sent with the toggle opposite to ST, or waits behind the BATCH
frame on the line; its reports join the return queue with RA set to RT when RT is new and they all find room; the site conditions take
the values reported, latching; carrier OFF ends CARRIER_STUCK; the last reported values are written (R129, R131, R134, R136, R137,
R139, R140; a waiting BATCH frame that takes the place of an earlier one is the model's choice, log 44). That a resync completed with no
batch at the link is over afterwards has LinksLaw as a premise. A site that keeps to R138 completes a pending resync by the STATUS it
sends on the link's POLL, whatever it held before, having set TT and DT to the ST the POLL carries. -/
def Obligations.StatusMovesTheLink : Prop :=
  ∀ (s : State) (z : Zone) (x : Status),
    let l := s.link z
    let r := s.zone z
    let t := handleStatus s z x
    let completes := l.resyncPending = true ∧ x.resyncAck = true ∧ x.tt = l.st ∧ x.dt = l.st
    let takes := (x.fwdPowerLow = true ∧ r.state ≠ .settling ∧ (l.fault .fwdPowerLow).takeOut = true)
      ∨ (x.reflectedHigh = true ∧ (l.fault .reflectedHigh).takeOut = true)
      ∨ (x.siteAlarm = true ∧ (l.fault .siteAlarm).takeOut = true)
    (t.link z).silence = some (s.sys.base + l.window * 1000)
    ∧ (t.link z).last = some ⟨x.carrier, x.tt, x.dt, x.fwdPowerLow, x.reflectedHigh, x.siteAlarm⟩
    ∧ (∀ y : SiteSide, l.resyncPending = true → x = (y.onPoll (pollByte l)).status → completes)
    ∧ (LinksLaw s → completes → l.batch = .none →
        (t.link z).resyncPending = false ∧ (t.link z).resync = none
          ∧ ((t.link z).fault .linkLost).present = false)
    ∧ (completes → ∀ entries b, l.batch = .withheld entries → r.site = some b → ¬ TakeOutAt s z → ¬ takes →
        t.zone z = { r with site := some { b with toggle := some (!l.st) } }
        ∧ (t.link z).st = (!l.st) ∧ (t.link z).batch = .sent ∧ (t.link z).take = l.take
        ∧ (t.link z).resyncPending = false ∧ (t.link z).resync = none ∧ ((t.link z).fault .linkLost).present = false
        ∧ (t.link z).sendingBatch = true
        ∧ (l.sendingBatch = false →
            (t.link z).tx = batchBytes (!l.st) b.number entries ∧ (t.link z).nextFrame = l.nextFrame)
        ∧ (l.sendingBatch = true →
            (t.link z).tx = l.tx ∧ (t.link z).nextFrame = some (batchBytes (!l.st) b.number entries)))
    ∧ (l.resyncPending = true → ¬ completes →
        (t.link z).resyncPending = true ∧ (t.link z).fault .linkLost = l.fault .linkLost)
    ∧ (l.ra = some x.rt → t.returns = s.returns ∧ (t.link z).ra = l.ra)
    ∧ (l.ra ≠ some x.rt → s.returns.length + x.reports.length ≤ 64 →
        t.returns = s.returns ++ x.reports ∧ (t.link z).ra = some x.rt)
    ∧ (l.ra ≠ some x.rt → 64 < s.returns.length + x.reports.length → t.returns = s.returns ∧ (t.link z).ra = l.ra)
    ∧ ((t.link z).fault .reflectedHigh
        = { l.fault .reflectedHigh with
            present := x.reflectedHigh, latched := (l.fault .reflectedHigh).latched || x.reflectedHigh })
    ∧ ((t.link z).fault .siteAlarm
        = { l.fault .siteAlarm with present := x.siteAlarm, latched := (l.fault .siteAlarm).latched || x.siteAlarm })
    ∧ (r.state ≠ .settling → r.state ≠ .faulted → ((t.link z).fault .fwdPowerLow).present = x.fwdPowerLow)
    ∧ (r.state = .settling → ¬ TakeOutAt s z → (t.zone z).state = .settling →
        ((t.link z).fault .fwdPowerLow).present = false)
    ∧ (x.carrier = false →
        (t.link z).fault .carrierStuck = { l.fault .carrierStuck with present := false })
    ∧ (x.carrier = true → (t.link z).fault .carrierStuck = l.fault .carrierStuck)
    ∧ (∀ y : Zone, y ≠ z → (t.zone y).state = (s.zone y).state)
    ∧ t.sys = s.sys ∧ t.dir = s.dir ∧ t.port.mode = s.port.mode ∧ t.intake.lines = s.intake.lines
/-- Take and end at a link in step, no take-out condition being present or reported: TT equal to the toggle of a batch SENT takes it, the
carrier timer running for its slots and a second; DT equal to the toggle with carrier OFF ends a batch ON_AIR, one just taken included:
its tickets are reported aired, its slots metered, the grant ends in the guard, and a drain is over and notified. With no batch, toggles
out of step begin a resync; the carrier timer follows the carrier (R132, R134, R111, R122, R168, R99, R101, R50, R161, R162; a drain's
notices behind those of the pages, log 21). -/
def Obligations.StatusTakesAndEndsBatches : Prop :=
  ∀ (s : State) (z : Zone) (x : Status), ChannelLaw s →
    let l := s.link z
    let r := s.zone z
    let t := handleStatus s z x
    let takes := (x.fwdPowerLow = true ∧ r.state ≠ .settling ∧ (l.fault .fwdPowerLow).takeOut = true)
      ∨ (x.reflectedHigh = true ∧ (l.fault .reflectedHigh).takeOut = true)
      ∨ (x.siteAlarm = true ∧ (l.fault .siteAlarm).takeOut = true)
    l.resyncPending = false → ¬ TakeOutAt s z → ¬ takes →
    (∀ b toggle, r.site = some b → b.toggle = some toggle →
      let ends := x.dt = toggle ∧ x.carrier = false
      let tookIt := l.batch = .sent ∧ x.tt = toggle
      let onAir := s.setZone z { r with site := some { b with onAir := true } }
      (tookIt → ¬ ends →
        (t.zone z).site = some { b with onAir := true } ∧ (t.zone z).state = r.state ∧ (t.link z).batch = .onAir
          ∧ (t.link z).take = none
          ∧ (t.link z).carrier = some (true, s.sys.base + (b.tickets.map (·.cost)).sum * 25 + 1000))
      ∧ ((tookIt ∨ l.batch = .onAir) → ends →
        SiteCleared onAir t z ∧ (t.link z).batch = .none ∧ (t.link z).carrier = none
          ∧ (r.state = .draining → (t.zone z).state = .outOfService ∧ (t.zone z).drainTimer = none
              ∧ Notified s t (3 * b.tickets.length + 8) (DrainNotified t z .completed b.tickets true))
          ∧ (r.state ≠ .draining → (t.zone z).state = r.state)
          ∧ ∀ n, ReportedAired s t b.tickets n)
      ∧ ((l.batch = .sent ∧ x.tt ≠ toggle ∨ l.batch = .onAir ∧ ¬ ends) →
        (t.zone z).site = some b ∧ (t.link z).batch = l.batch ∧ (t.link z).take = l.take))
    ∧ (l.batch = .none → x.tt = l.st → x.dt = l.st → (t.link z).resyncPending = false)
    ∧ (l.batch = .none → (x.tt ≠ l.st ∨ x.dt ≠ l.st) →
        (t.link z).resyncPending = true ∧ (t.link z).resync = some (s.sys.base + l.window * 1000))
    ∧ (l.batch = .none → x.carrier = false → (t.link z).carrier = none)
    ∧ (l.batch = .none → x.carrier = true → l.carrier = none → (l.fault .carrierStuck).present = false →
        (t.link z).carrier = some (false, s.sys.base + 1000))
    ∧ (l.batch = .none → x.carrier = true → l.carrier ≠ none → (t.link z).carrier = l.carrier)
/-- A STATUS that takes a zone out or puts it back. At a FAULTED zone, the last take-out condition gone puts it into SETTLING, its settle
timer started in RUNNING, and a site condition with action TAKE_OUT then reported takes it out again; any other FAULTED zone and an
OUT_OF_SERVICE zone stay. A site condition with action TAKE_OUT reported, FWD-POWER-LOW in SETTLING apart, puts a zone IN_SERVICE or in
SETTLING into FAULTED, what is unsent withdrawn and the batch at its site ended or abandoned, and ends the drain of a DRAINING zone: the
batch's tickets are reported aired if the site had taken it, in this STATUS or before. The link is left with no batch and no take
timeout, ST as it was or as a withheld frame sent in this STATUS made it; a batch not taken leaves resync pending, and one on the air
that has not ended leaves the carrier timer in no-batch mode if the carrier last reported before was ON, else stopped. Every change of
state and every drain's end is notified, behind the notices of the pages it gives up (log 21) (R96, R99 to R101, R111, R112, R129, R132,
R134, R135, R139, R140, R50, R161, R162). That the take-out computation is made at each stage that changes a condition, and once for the
three site conditions, so that a FAULTED zone can pass through SETTLING and be taken out again in one STATUS,
is the model's choice (log 23); that the values last reported are those of the frame before is its reading (log 24). -/
def Obligations.StatusMovesTheZone : Prop :=
  ∀ (s : State) (z : Zone) (x : Status), ChannelLaw s → ZonesLaw s → LinksLaw s → FaultsLaw s →
    let l := s.link z
    let r := s.zone z
    let t := handleStatus s z x
    let reported := (x.reflectedHigh = true ∧ (l.fault .reflectedHigh).takeOut = true)
      ∨ (x.siteAlarm = true ∧ (l.fault .siteAlarm).takeOut = true)
    let low := x.fwdPowerLow = true ∧ (l.fault .fwdPowerLow).takeOut = true
    let inStep := !l.resyncPending || (x.resyncAck && x.tt == l.st && x.dt == l.st)
    let taken (b : SiteBatch) : Bool := b.onAir || (l.batch == .sent && b.toggle == some x.tt && inStep)
    let air := ∃ b, r.site = some b ∧ taken b = true
    let was := s.setZone z { r with site := r.site.map fun b => { b with onAir := taken b } }
    let stays := ∃ k, (l.fault k).takeOut = true
      ∧ (if k = .linkLost ∨ k = .carrierStuck then ((t.link z).fault k).present else (l.fault k).present) = true
    let completes := l.resyncPending = true ∧ x.resyncAck = true ∧ x.tt = l.st ∧ x.dt = l.st
    let linkLeft := (t.link z).batch = .none ∧ (t.link z).take = none
      ∧ ((∀ entries, l.batch ≠ .withheld entries) ∨ ¬ completes → (t.link z).st = l.st)
      ∧ (∀ entries, l.batch = .withheld entries → completes → (t.link z).st = (!l.st))
      ∧ (r.site ≠ none → ¬ air → (t.link z).resyncPending = true
          ∧ (l.resyncPending = true → ¬ completes → (t.link z).resync = l.resync)
          ∧ (l.resyncPending = false ∨ completes → (t.link z).resync = some (s.sys.base + l.window * 1000)))
      ∧ ∀ b toggle, r.site = some b → b.toggle = some toggle → taken b = true →
        let ends := inStep = true ∧ x.dt = toggle ∧ x.carrier = false
        let timer := if b.onAir then l.carrier else some (true, s.sys.base + (b.tickets.map (·.cost)).sum * 25 + 1000)
        (ends → (t.link z).carrier = none)
        ∧ (¬ ends → (t.link z).carrier = match timer, l.last with
            | some (_, due), some y => if y.carrier then some (false, due) else none
            | _, _ => none)
    let ended := ∃ b toggle, r.site = some b ∧ b.toggle = some toggle ∧ taken b = true ∧ inStep = true ∧ x.dt = toggle
      ∧ x.carrier = false
    (r.state = .outOfService → t.zone z = r)
    ∧ (r.state = .faulted → t.zone z = { r with state := (t.zone z).state }
        ∧ (stays →
            ((t.zone z).state = .faulted
              ↔ ((t.link z).fault .linkLost).present = true ∨ ((t.link z).fault .carrierStuck).present = true ∨ reported ∨ low)
            ∧ ((t.zone z).state = .faulted → ((t.link z).fault .fwdPowerLow).present = x.fwdPowerLow))
        ∧ (¬ stays → ((t.zone z).state = .faulted ↔ reported))
        ∧ Notified s t 8
            ((¬ stays ∨ (t.zone z).state = .settling → (.zoneState z .faulted .settling .takeOutClear) ∈ t.port.notices)
              ∧ (¬ stays → reported → (.zoneState z .settling .faulted .takeOut) ∈ t.port.notices))
        ∧ ((t.zone z).state = .faulted ∨ (t.zone z).state = .settling ∧ ¬ TakeOutAt t z
            ∧ (s.port.mode = .running → (t.link z).settle = some (s.sys.base + r.settleWindow * 1000))))
    ∧ ((r.state = .inService ∧ (reported ∨ low) ∨ r.state = .settling ∧ reported) →
        (t.zone z).state = .faulted ∧ (t.zone z).emergency = [] ∧ (t.zone z).priority = [] ∧ (t.zone z).normal = []
          ∧ (t.zone z).making = none ∧ linkLeft ∧ SiteCleared was t z
          ∧ Notified s t (3 * r.live.length + 8) ((.zoneState z r.state .faulted .takeOut) ∈ t.port.notices)
          ∧ (r.state = .settling → (t.link z).settle = none)
          ∧ (∀ n, air → ticketsOf n r.unsent = 0 → ReportedAired s t r.atSite n)
          ∧ (∀ n, air → ticketsOf n r.atSite = 0 → ReportedNotAired s t r.unsent n)
          ∧ ∀ n, ¬ air → ReportedNotAired s t r.live n)
    ∧ (r.state = .draining → reported ∨ low →
        (t.zone z).state = .outOfService ∧ (t.zone z).drainTimer = none ∧ linkLeft ∧ SiteCleared was t z
          ∧ Notified s t (3 * r.atSite.length + 8)
              ((ended → DrainNotified t z .completed r.atSite true)
                ∧ (¬ ended → air → DrainNotified t z .faulted r.atSite true)
                ∧ (¬ air → DrainNotified t z .faulted r.atSite false))
          ∧ (∀ n, air → ReportedAired s t r.atSite n) ∧ ∀ n, ¬ air → ReportedNotAired s t r.atSite n)
/-! ## The laws of the part -/

/-- The part right after reset keeps every law. -/
def Obligations.ResetKeepsEveryLaw : Prop :=
  let s := State.reset
  QueuesBounded s ∧ AnswersOrdered s ∧ SilentLaw s ∧ BlocksLaw s ∧ AirMapLaw s ∧ SubscribersLaw s ∧ SlotLaw s ∧ JournalLaw s
    ∧ ReservationsLaw s ∧ LinesLaw s ∧ ClockLaw s ∧ ZonesLaw s ∧ ChannelLaw s ∧ TicketsLaw s ∧ ListsLaw s
    ∧ TicketPagesLaw s ∧ LinksLaw s ∧ FaultsLaw s ∧ AlarmsLaw s
/-- Every step keeps the queues within their places and the answers in the order they became ready (R150, R176 to R179), and, while no
frame has been begun since a power-up, STARTED at the head of the notices (R184). -/
def Obligations.EveryStepKeepsTheQueues : Prop :=
  ∀ s t : State, step s = .next t →
    (QueuesBounded s → AnswersOrdered s → QueuesBounded t ∧ AnswersOrdered t) ∧ (SilentLaw s → SilentLaw t)
/-- Every step keeps the number plan free of overlaps, the air-address map exact, and the constraints and membership counts of the
records (R1, R3, R5, R7). -/
def Obligations.EveryStepKeepsTheDirectory : Prop :=
  ∀ s t : State, step s = .next t →
    (BlocksLaw s → BlocksLaw t) ∧ (AirMapLaw s → AirMapLaw t) ∧ (SubscribersLaw s → SubscribersLaw t)
/-- Every step keeps at most 1024 live pages and at most 2048 records and live pages together (R43, R86), and the records' numbers
consecutive with the JOURNAL-HIGH condition as the level gives it (R85, R89). -/
def Obligations.EveryStepKeepsPagesAndJournal : Prop :=
  ∀ s t : State, step s = .next t → (SlotLaw s → SlotLaw t) ∧ (JournalLaw s → JournalLaw t)
/-- Every step keeps the reserved total of every account equal to the sum of the frozen estimates of its live pages (R69). -/
def Obligations.EveryStepKeepsTheReservations : Prop :=
  ∀ s t : State, SlotLaw s → TicketsLaw s → ReservationsLaw s → step s = .next t → ReservationsLaw t
/-- Every step keeps each line's ring within 512 bytes, its HOLD as the fill and the operating state ask (R19, R20, R42) and the token of
the prompt in progress on its TXD, nothing without one (R25; that TXD holds the whole token is the model's choice, log 38), and the
office clock within its last value (R180). -/
def Obligations.EveryStepKeepsTheLinesAndTheClock : Prop :=
  ∀ s t : State, step s = .next t → (LinesLaw s → LinesLaw t) ∧ (ClockLaw s → ClockLaw t)
/-- Every step keeps a zone that takes no tickets free of tickets not sent (R95), a batch at a site only under its group's grant (R121,
R117, R118), and at most 2048 live tickets (R102). -/
def Obligations.EveryStepKeepsTheDispatch : Prop :=
  ∀ s t : State, ZonesLaw s → ChannelLaw s → TicketsLaw s → step s = .next t → ZonesLaw t ∧ ChannelLaw t ∧ TicketsLaw t
/-- Every step keeps the scheduler's lists, the ticket-wait list and the mailboxes exact: each holds the pages of its state, once and in its
order, and every live page's subscriber is a pager (R57, R104, R154). -/
def Obligations.EveryStepKeepsTheLists : Prop :=
  ∀ s t : State, SlotLaw s → TicketsLaw s → ListsLaw s → step s = .next t → ListsLaw t
/-- Every step keeps the live tickets and their pages in agreement: a page in ATTEMPT counts its tickets in the zones, one in each at most,
no other page has any, and an orphan is at a site with the reference of no live page (R44, R50, R53, R102, R105). -/
def Obligations.EveryStepKeepsTheTickets : Prop :=
  ∀ s t : State, SlotLaw s → TicketsLaw s → ListsLaw s → ZonesLaw s → ChannelLaw s → TicketPagesLaw s → step s = .next t →
    TicketPagesLaw t
/-- Every step keeps the batch at each link that of its zone (R128, R131, R132), the fault kinds of a zone in agreement with its state
(R96, R100, R134, R139, R140), and the alarm outputs as their maps and the latched flags ask (R142). -/
def Obligations.EveryStepKeepsTheLinksAndAlarms : Prop :=
  ∀ s t : State, step s = .next t →
    (ZonesLaw s → ChannelLaw s → LinksLaw s → FaultsLaw s → LinksLaw t ∧ FaultsLaw t) ∧ (AlarmsLaw s → AlarmsLaw t)

end Statements
end

