-- ==== Sys2Proof/Laws/Bytes.lean ====
section
/-! SUPPORT. Laws/Bytes.lean: reading back what is written in bytes: numbers, fields, lists and texts of a body. -/

namespace Sys2Proof.Machine

@[simp] theorem length_be (n x : Nat) : (be n x).length = n := by
  induction n with
  | zero => rfl
  | succ n ih => simp [be, ih]

theorem natOf_foldl (l : List Byte) (acc : Nat) :
    l.foldl (fun acc b => acc * 256 + b.toNat) acc = acc * 256 ^ l.length + natOf l := by
  induction l generalizing acc with
  | nil => simp [natOf]
  | cons b rest ih =>
    have h1 := ih (acc * 256 + b.toNat)
    have h2 := ih b.toNat
    simp only [List.foldl_cons, List.length_cons, natOf, Nat.zero_mul, Nat.zero_add] at h1 h2 ⊢
    rw [h1, h2, Nat.pow_succ, Nat.add_mul, Nat.mul_assoc, Nat.mul_comm 256 (256 ^ rest.length), Nat.add_assoc]

theorem natOf_cons (b : Byte) (l : List Byte) : natOf (b :: l) = b.toNat * 256 ^ l.length + natOf l := by
  have h := natOf_foldl l b.toNat
  simpa [natOf] using h

/-- The number that written bytes give (R186). -/
theorem natOf_be (n x : Nat) : natOf (be n x) = x % 256 ^ n := by
  induction n with
  | zero => simp [be, natOf, Nat.mod_one]
  | succ n ih =>
    have h8 : (2 : Nat) ^ 8 = 256 := by decide
    have hs : (256 : Nat) ^ (n + 1) = 256 ^ n * 256 := Nat.pow_succ 256 n
    rw [be, natOf_cons, length_be, ih, BitVec.toNat_ofNat, h8, hs, Nat.mod_mul, Nat.mul_comm (x / 256 ^ n % 256),
      Nat.add_comm]

theorem natOf_be_of_lt {n x : Nat} (h : x < 256 ^ n) : natOf (be n x) = x := by
  rw [natOf_be, Nat.mod_eq_of_lt h]

/-- A field is read back, with what follows it. -/
theorem takeNat_be {n x : Nat} (h : x < 256 ^ n) (rest : List Byte) : takeNat n (be n x ++ rest) = some (x, rest) := by
  have hl : (be n x).length = n := length_be n x
  unfold takeNat
  have h1 : ¬ (be n x ++ rest).length < n := by simp
  have h2 : (be n x ++ rest).take n = be n x := by
    rw [List.take_append, hl]; simp [List.take_of_length_le]
  have h3 : (be n x ++ rest).drop n = rest := by
    rw [List.drop_append, hl]; simp [List.drop_of_length_le]
  simp only [h1, if_false, h2, h3, natOf_be_of_lt h]

/-- The values fit the widths of their fields. -/
def FieldsFit : List Nat → List Nat → Prop
  | w :: ws, x :: xs => x < 256 ^ w ∧ FieldsFit ws xs
  | [], [] => True
  | _, _ => False

/-- The fields of a body are read back (R188). -/
theorem readFields_writeFields {ws xs : List Nat} (h : FieldsFit ws xs) : readFields ws (writeFields ws xs) = some xs := by
  induction ws generalizing xs with
  | nil =>
    cases xs with
    | nil => rfl
    | cons x xs => exact absurd h id
  | cons w ws ih =>
    cases xs with
    | nil => exact absurd h id
    | cons x xs =>
      have hx : x < 256 ^ w := h.1
      rw [writeFields, readFields, takeNat_be hx]
      simp [ih h.2]

theorem length_writeFields {ws xs : List Nat} (h : FieldsFit ws xs) : (writeFields ws xs).length = ws.sum := by
  induction ws generalizing xs with
  | nil =>
    cases xs with
    | nil => rfl
    | cons x xs => exact absurd h id
  | cons w ws ih =>
    cases xs with
    | nil => exact absurd h id
    | cons x xs => simp [writeFields, ih h.2]

/-- A counted list is read back (R188). -/
theorem readPairs_flatMap {l : List Nat} (h : ∀ x ∈ l, x < 65536) : readPairs l.length (l.flatMap (be 2)) = some l := by
  induction l with
  | nil => rfl
  | cons x rest ih =>
    have hx : x < 256 ^ 2 := h x (List.mem_cons_self)
    rw [List.length_cons, readPairs, List.flatMap_cons, takeNat_be hx]
    simp [ih fun y hy => h y (List.mem_cons_of_mem _ hy)]

theorem readList_counted {l : List Nat} (hl : l.length < 256) (h : ∀ x ∈ l, x < 65536) :
    readList (be 1 l.length ++ l.flatMap (be 2)) = some l := by
  have h1 : l.length < 256 ^ 1 := hl
  rw [readList, takeNat_be h1]
  exact readPairs_flatMap h

/-- A text is read back (R188). -/
theorem readText_counted {limit : Nat} {text : List Byte} (hl : text.length ≤ limit) (h : limit < 256) :
    readText limit (be 1 text.length ++ text) = some text := by
  have h1 : text.length < 256 ^ 1 := Nat.lt_of_le_of_lt hl h
  rw [readText, takeNat_be h1]
  simp [hl]

end Sys2Proof.Machine
end

