-- ==== Sys2Proof/Laws/State.lean ====
section
/-! SUPPORT. Laws/State.lean: what each block reads after each update of a block, or of a named part of one: one rewriting lemma
per field per update. -/

namespace Sys2Proof.Machine

/-! ## After setPending -/

@[simp] theorem State.pending_setPending (s : State) (x : List Instr) : (s.setPending x).pending = x := rfl
@[simp] theorem State.sys_setPending (s : State) (x : List Instr) : (s.setPending x).sys = s.sys := rfl
@[simp] theorem State.port_setPending (s : State) (x : List Instr) : (s.setPending x).port = s.port := rfl
@[simp] theorem State.intake_setPending (s : State) (x : List Instr) : (s.setPending x).intake = s.intake := rfl
@[simp] theorem State.dir_setPending (s : State) (x : List Instr) : (s.setPending x).dir = s.dir := rfl
@[simp] theorem State.store_setPending (s : State) (x : List Instr) : (s.setPending x).store = s.store := rfl
@[simp] theorem State.money_setPending (s : State) (x : List Instr) : (s.setPending x).money = s.money := rfl
@[simp] theorem State.journal_setPending (s : State) (x : List Instr) : (s.setPending x).journal = s.journal := rfl
@[simp] theorem State.sched_setPending (s : State) (x : List Instr) : (s.setPending x).sched = s.sched := rfl
@[simp] theorem State.dispatch_setPending (s : State) (x : List Instr) : (s.setPending x).dispatch = s.dispatch := rfl
@[simp] theorem State.arbiter_setPending (s : State) (x : List Instr) : (s.setPending x).arbiter = s.arbiter := rfl
@[simp] theorem State.sites_setPending (s : State) (x : List Instr) : (s.setPending x).sites = s.sites := rfl
@[simp] theorem State.returns_setPending (s : State) (x : List Instr) : (s.setPending x).returns = s.returns := rfl
@[simp] theorem State.meter_setPending (s : State) (x : List Instr) : (s.setPending x).meter = s.meter := rfl

/-! ## After setSys -/

@[simp] theorem State.pending_setSys (s : State) (x : Sys) : (s.setSys x).pending = s.pending := rfl
@[simp] theorem State.sys_setSys (s : State) (x : Sys) : (s.setSys x).sys = x := rfl
@[simp] theorem State.port_setSys (s : State) (x : Sys) : (s.setSys x).port = s.port := rfl
@[simp] theorem State.intake_setSys (s : State) (x : Sys) : (s.setSys x).intake = s.intake := rfl
@[simp] theorem State.dir_setSys (s : State) (x : Sys) : (s.setSys x).dir = s.dir := rfl
@[simp] theorem State.store_setSys (s : State) (x : Sys) : (s.setSys x).store = s.store := rfl
@[simp] theorem State.money_setSys (s : State) (x : Sys) : (s.setSys x).money = s.money := rfl
@[simp] theorem State.journal_setSys (s : State) (x : Sys) : (s.setSys x).journal = s.journal := rfl
@[simp] theorem State.sched_setSys (s : State) (x : Sys) : (s.setSys x).sched = s.sched := rfl
@[simp] theorem State.dispatch_setSys (s : State) (x : Sys) : (s.setSys x).dispatch = s.dispatch := rfl
@[simp] theorem State.arbiter_setSys (s : State) (x : Sys) : (s.setSys x).arbiter = s.arbiter := rfl
@[simp] theorem State.sites_setSys (s : State) (x : Sys) : (s.setSys x).sites = s.sites := rfl
@[simp] theorem State.returns_setSys (s : State) (x : Sys) : (s.setSys x).returns = s.returns := rfl
@[simp] theorem State.meter_setSys (s : State) (x : Sys) : (s.setSys x).meter = s.meter := rfl

/-! ## After setPort -/

@[simp] theorem State.pending_setPort (s : State) (x : Port) : (s.setPort x).pending = s.pending := rfl
@[simp] theorem State.sys_setPort (s : State) (x : Port) : (s.setPort x).sys = s.sys := rfl
@[simp] theorem State.port_setPort (s : State) (x : Port) : (s.setPort x).port = x := rfl
@[simp] theorem State.intake_setPort (s : State) (x : Port) : (s.setPort x).intake = s.intake := rfl
@[simp] theorem State.dir_setPort (s : State) (x : Port) : (s.setPort x).dir = s.dir := rfl
@[simp] theorem State.store_setPort (s : State) (x : Port) : (s.setPort x).store = s.store := rfl
@[simp] theorem State.money_setPort (s : State) (x : Port) : (s.setPort x).money = s.money := rfl
@[simp] theorem State.journal_setPort (s : State) (x : Port) : (s.setPort x).journal = s.journal := rfl
@[simp] theorem State.sched_setPort (s : State) (x : Port) : (s.setPort x).sched = s.sched := rfl
@[simp] theorem State.dispatch_setPort (s : State) (x : Port) : (s.setPort x).dispatch = s.dispatch := rfl
@[simp] theorem State.arbiter_setPort (s : State) (x : Port) : (s.setPort x).arbiter = s.arbiter := rfl
@[simp] theorem State.sites_setPort (s : State) (x : Port) : (s.setPort x).sites = s.sites := rfl
@[simp] theorem State.returns_setPort (s : State) (x : Port) : (s.setPort x).returns = s.returns := rfl
@[simp] theorem State.meter_setPort (s : State) (x : Port) : (s.setPort x).meter = s.meter := rfl

/-! ## After setIntake -/

@[simp] theorem State.pending_setIntake (s : State) (x : Intake) : (s.setIntake x).pending = s.pending := rfl
@[simp] theorem State.sys_setIntake (s : State) (x : Intake) : (s.setIntake x).sys = s.sys := rfl
@[simp] theorem State.port_setIntake (s : State) (x : Intake) : (s.setIntake x).port = s.port := rfl
@[simp] theorem State.intake_setIntake (s : State) (x : Intake) : (s.setIntake x).intake = x := rfl
@[simp] theorem State.dir_setIntake (s : State) (x : Intake) : (s.setIntake x).dir = s.dir := rfl
@[simp] theorem State.store_setIntake (s : State) (x : Intake) : (s.setIntake x).store = s.store := rfl
@[simp] theorem State.money_setIntake (s : State) (x : Intake) : (s.setIntake x).money = s.money := rfl
@[simp] theorem State.journal_setIntake (s : State) (x : Intake) : (s.setIntake x).journal = s.journal := rfl
@[simp] theorem State.sched_setIntake (s : State) (x : Intake) : (s.setIntake x).sched = s.sched := rfl
@[simp] theorem State.dispatch_setIntake (s : State) (x : Intake) : (s.setIntake x).dispatch = s.dispatch := rfl
@[simp] theorem State.arbiter_setIntake (s : State) (x : Intake) : (s.setIntake x).arbiter = s.arbiter := rfl
@[simp] theorem State.sites_setIntake (s : State) (x : Intake) : (s.setIntake x).sites = s.sites := rfl
@[simp] theorem State.returns_setIntake (s : State) (x : Intake) : (s.setIntake x).returns = s.returns := rfl
@[simp] theorem State.meter_setIntake (s : State) (x : Intake) : (s.setIntake x).meter = s.meter := rfl

/-! ## After setDir -/

@[simp] theorem State.pending_setDir (s : State) (x : Directory) : (s.setDir x).pending = s.pending := rfl
@[simp] theorem State.sys_setDir (s : State) (x : Directory) : (s.setDir x).sys = s.sys := rfl
@[simp] theorem State.port_setDir (s : State) (x : Directory) : (s.setDir x).port = s.port := rfl
@[simp] theorem State.intake_setDir (s : State) (x : Directory) : (s.setDir x).intake = s.intake := rfl
@[simp] theorem State.dir_setDir (s : State) (x : Directory) : (s.setDir x).dir = x := rfl
@[simp] theorem State.store_setDir (s : State) (x : Directory) : (s.setDir x).store = s.store := rfl
@[simp] theorem State.money_setDir (s : State) (x : Directory) : (s.setDir x).money = s.money := rfl
@[simp] theorem State.journal_setDir (s : State) (x : Directory) : (s.setDir x).journal = s.journal := rfl
@[simp] theorem State.sched_setDir (s : State) (x : Directory) : (s.setDir x).sched = s.sched := rfl
@[simp] theorem State.dispatch_setDir (s : State) (x : Directory) : (s.setDir x).dispatch = s.dispatch := rfl
@[simp] theorem State.arbiter_setDir (s : State) (x : Directory) : (s.setDir x).arbiter = s.arbiter := rfl
@[simp] theorem State.sites_setDir (s : State) (x : Directory) : (s.setDir x).sites = s.sites := rfl
@[simp] theorem State.returns_setDir (s : State) (x : Directory) : (s.setDir x).returns = s.returns := rfl
@[simp] theorem State.meter_setDir (s : State) (x : Directory) : (s.setDir x).meter = s.meter := rfl

/-! ## After setStore -/

@[simp] theorem State.pending_setStore (s : State) (x : PageStore) : (s.setStore x).pending = s.pending := rfl
@[simp] theorem State.sys_setStore (s : State) (x : PageStore) : (s.setStore x).sys = s.sys := rfl
@[simp] theorem State.port_setStore (s : State) (x : PageStore) : (s.setStore x).port = s.port := rfl
@[simp] theorem State.intake_setStore (s : State) (x : PageStore) : (s.setStore x).intake = s.intake := rfl
@[simp] theorem State.dir_setStore (s : State) (x : PageStore) : (s.setStore x).dir = s.dir := rfl
@[simp] theorem State.store_setStore (s : State) (x : PageStore) : (s.setStore x).store = x := rfl
@[simp] theorem State.money_setStore (s : State) (x : PageStore) : (s.setStore x).money = s.money := rfl
@[simp] theorem State.journal_setStore (s : State) (x : PageStore) : (s.setStore x).journal = s.journal := rfl
@[simp] theorem State.sched_setStore (s : State) (x : PageStore) : (s.setStore x).sched = s.sched := rfl
@[simp] theorem State.dispatch_setStore (s : State) (x : PageStore) : (s.setStore x).dispatch = s.dispatch := rfl
@[simp] theorem State.arbiter_setStore (s : State) (x : PageStore) : (s.setStore x).arbiter = s.arbiter := rfl
@[simp] theorem State.sites_setStore (s : State) (x : PageStore) : (s.setStore x).sites = s.sites := rfl
@[simp] theorem State.returns_setStore (s : State) (x : PageStore) : (s.setStore x).returns = s.returns := rfl
@[simp] theorem State.meter_setStore (s : State) (x : PageStore) : (s.setStore x).meter = s.meter := rfl

/-! ## After setMoney -/

@[simp] theorem State.pending_setMoney (s : State) (x : AccountUnit) : (s.setMoney x).pending = s.pending := rfl
@[simp] theorem State.sys_setMoney (s : State) (x : AccountUnit) : (s.setMoney x).sys = s.sys := rfl
@[simp] theorem State.port_setMoney (s : State) (x : AccountUnit) : (s.setMoney x).port = s.port := rfl
@[simp] theorem State.intake_setMoney (s : State) (x : AccountUnit) : (s.setMoney x).intake = s.intake := rfl
@[simp] theorem State.dir_setMoney (s : State) (x : AccountUnit) : (s.setMoney x).dir = s.dir := rfl
@[simp] theorem State.store_setMoney (s : State) (x : AccountUnit) : (s.setMoney x).store = s.store := rfl
@[simp] theorem State.money_setMoney (s : State) (x : AccountUnit) : (s.setMoney x).money = x := rfl
@[simp] theorem State.journal_setMoney (s : State) (x : AccountUnit) : (s.setMoney x).journal = s.journal := rfl
@[simp] theorem State.sched_setMoney (s : State) (x : AccountUnit) : (s.setMoney x).sched = s.sched := rfl
@[simp] theorem State.dispatch_setMoney (s : State) (x : AccountUnit) : (s.setMoney x).dispatch = s.dispatch := rfl
@[simp] theorem State.arbiter_setMoney (s : State) (x : AccountUnit) : (s.setMoney x).arbiter = s.arbiter := rfl
@[simp] theorem State.sites_setMoney (s : State) (x : AccountUnit) : (s.setMoney x).sites = s.sites := rfl
@[simp] theorem State.returns_setMoney (s : State) (x : AccountUnit) : (s.setMoney x).returns = s.returns := rfl
@[simp] theorem State.meter_setMoney (s : State) (x : AccountUnit) : (s.setMoney x).meter = s.meter := rfl

/-! ## After setJournal -/

@[simp] theorem State.pending_setJournal (s : State) (x : Journal) : (s.setJournal x).pending = s.pending := rfl
@[simp] theorem State.sys_setJournal (s : State) (x : Journal) : (s.setJournal x).sys = s.sys := rfl
@[simp] theorem State.port_setJournal (s : State) (x : Journal) : (s.setJournal x).port = s.port := rfl
@[simp] theorem State.intake_setJournal (s : State) (x : Journal) : (s.setJournal x).intake = s.intake := rfl
@[simp] theorem State.dir_setJournal (s : State) (x : Journal) : (s.setJournal x).dir = s.dir := rfl
@[simp] theorem State.store_setJournal (s : State) (x : Journal) : (s.setJournal x).store = s.store := rfl
@[simp] theorem State.money_setJournal (s : State) (x : Journal) : (s.setJournal x).money = s.money := rfl
@[simp] theorem State.journal_setJournal (s : State) (x : Journal) : (s.setJournal x).journal = x := rfl
@[simp] theorem State.sched_setJournal (s : State) (x : Journal) : (s.setJournal x).sched = s.sched := rfl
@[simp] theorem State.dispatch_setJournal (s : State) (x : Journal) : (s.setJournal x).dispatch = s.dispatch := rfl
@[simp] theorem State.arbiter_setJournal (s : State) (x : Journal) : (s.setJournal x).arbiter = s.arbiter := rfl
@[simp] theorem State.sites_setJournal (s : State) (x : Journal) : (s.setJournal x).sites = s.sites := rfl
@[simp] theorem State.returns_setJournal (s : State) (x : Journal) : (s.setJournal x).returns = s.returns := rfl
@[simp] theorem State.meter_setJournal (s : State) (x : Journal) : (s.setJournal x).meter = s.meter := rfl

/-! ## After setSched -/

@[simp] theorem State.pending_setSched (s : State) (x : Scheduler) : (s.setSched x).pending = s.pending := rfl
@[simp] theorem State.sys_setSched (s : State) (x : Scheduler) : (s.setSched x).sys = s.sys := rfl
@[simp] theorem State.port_setSched (s : State) (x : Scheduler) : (s.setSched x).port = s.port := rfl
@[simp] theorem State.intake_setSched (s : State) (x : Scheduler) : (s.setSched x).intake = s.intake := rfl
@[simp] theorem State.dir_setSched (s : State) (x : Scheduler) : (s.setSched x).dir = s.dir := rfl
@[simp] theorem State.store_setSched (s : State) (x : Scheduler) : (s.setSched x).store = s.store := rfl
@[simp] theorem State.money_setSched (s : State) (x : Scheduler) : (s.setSched x).money = s.money := rfl
@[simp] theorem State.journal_setSched (s : State) (x : Scheduler) : (s.setSched x).journal = s.journal := rfl
@[simp] theorem State.sched_setSched (s : State) (x : Scheduler) : (s.setSched x).sched = x := rfl
@[simp] theorem State.dispatch_setSched (s : State) (x : Scheduler) : (s.setSched x).dispatch = s.dispatch := rfl
@[simp] theorem State.arbiter_setSched (s : State) (x : Scheduler) : (s.setSched x).arbiter = s.arbiter := rfl
@[simp] theorem State.sites_setSched (s : State) (x : Scheduler) : (s.setSched x).sites = s.sites := rfl
@[simp] theorem State.returns_setSched (s : State) (x : Scheduler) : (s.setSched x).returns = s.returns := rfl
@[simp] theorem State.meter_setSched (s : State) (x : Scheduler) : (s.setSched x).meter = s.meter := rfl

/-! ## After setDispatch -/

@[simp] theorem State.pending_setDispatch (s : State) (x : DispatchUnit) : (s.setDispatch x).pending = s.pending := rfl
@[simp] theorem State.sys_setDispatch (s : State) (x : DispatchUnit) : (s.setDispatch x).sys = s.sys := rfl
@[simp] theorem State.port_setDispatch (s : State) (x : DispatchUnit) : (s.setDispatch x).port = s.port := rfl
@[simp] theorem State.intake_setDispatch (s : State) (x : DispatchUnit) : (s.setDispatch x).intake = s.intake := rfl
@[simp] theorem State.dir_setDispatch (s : State) (x : DispatchUnit) : (s.setDispatch x).dir = s.dir := rfl
@[simp] theorem State.store_setDispatch (s : State) (x : DispatchUnit) : (s.setDispatch x).store = s.store := rfl
@[simp] theorem State.money_setDispatch (s : State) (x : DispatchUnit) : (s.setDispatch x).money = s.money := rfl
@[simp] theorem State.journal_setDispatch (s : State) (x : DispatchUnit) : (s.setDispatch x).journal = s.journal := rfl
@[simp] theorem State.sched_setDispatch (s : State) (x : DispatchUnit) : (s.setDispatch x).sched = s.sched := rfl
@[simp] theorem State.dispatch_setDispatch (s : State) (x : DispatchUnit) : (s.setDispatch x).dispatch = x := rfl
@[simp] theorem State.arbiter_setDispatch (s : State) (x : DispatchUnit) : (s.setDispatch x).arbiter = s.arbiter := rfl
@[simp] theorem State.sites_setDispatch (s : State) (x : DispatchUnit) : (s.setDispatch x).sites = s.sites := rfl
@[simp] theorem State.returns_setDispatch (s : State) (x : DispatchUnit) : (s.setDispatch x).returns = s.returns := rfl
@[simp] theorem State.meter_setDispatch (s : State) (x : DispatchUnit) : (s.setDispatch x).meter = s.meter := rfl

/-! ## After setArbiter -/

@[simp] theorem State.pending_setArbiter (s : State) (x : Vector GroupRec 4) : (s.setArbiter x).pending = s.pending := rfl
@[simp] theorem State.sys_setArbiter (s : State) (x : Vector GroupRec 4) : (s.setArbiter x).sys = s.sys := rfl
@[simp] theorem State.port_setArbiter (s : State) (x : Vector GroupRec 4) : (s.setArbiter x).port = s.port := rfl
@[simp] theorem State.intake_setArbiter (s : State) (x : Vector GroupRec 4) : (s.setArbiter x).intake = s.intake := rfl
@[simp] theorem State.dir_setArbiter (s : State) (x : Vector GroupRec 4) : (s.setArbiter x).dir = s.dir := rfl
@[simp] theorem State.store_setArbiter (s : State) (x : Vector GroupRec 4) : (s.setArbiter x).store = s.store := rfl
@[simp] theorem State.money_setArbiter (s : State) (x : Vector GroupRec 4) : (s.setArbiter x).money = s.money := rfl
@[simp] theorem State.journal_setArbiter (s : State) (x : Vector GroupRec 4) : (s.setArbiter x).journal = s.journal := rfl
@[simp] theorem State.sched_setArbiter (s : State) (x : Vector GroupRec 4) : (s.setArbiter x).sched = s.sched := rfl
@[simp] theorem State.dispatch_setArbiter (s : State) (x : Vector GroupRec 4) : (s.setArbiter x).dispatch = s.dispatch := rfl
@[simp] theorem State.arbiter_setArbiter (s : State) (x : Vector GroupRec 4) : (s.setArbiter x).arbiter = x := rfl
@[simp] theorem State.sites_setArbiter (s : State) (x : Vector GroupRec 4) : (s.setArbiter x).sites = s.sites := rfl
@[simp] theorem State.returns_setArbiter (s : State) (x : Vector GroupRec 4) : (s.setArbiter x).returns = s.returns := rfl
@[simp] theorem State.meter_setArbiter (s : State) (x : Vector GroupRec 4) : (s.setArbiter x).meter = s.meter := rfl

/-! ## After setSites -/

@[simp] theorem State.pending_setSites (s : State) (x : Sites) : (s.setSites x).pending = s.pending := rfl
@[simp] theorem State.sys_setSites (s : State) (x : Sites) : (s.setSites x).sys = s.sys := rfl
@[simp] theorem State.port_setSites (s : State) (x : Sites) : (s.setSites x).port = s.port := rfl
@[simp] theorem State.intake_setSites (s : State) (x : Sites) : (s.setSites x).intake = s.intake := rfl
@[simp] theorem State.dir_setSites (s : State) (x : Sites) : (s.setSites x).dir = s.dir := rfl
@[simp] theorem State.store_setSites (s : State) (x : Sites) : (s.setSites x).store = s.store := rfl
@[simp] theorem State.money_setSites (s : State) (x : Sites) : (s.setSites x).money = s.money := rfl
@[simp] theorem State.journal_setSites (s : State) (x : Sites) : (s.setSites x).journal = s.journal := rfl
@[simp] theorem State.sched_setSites (s : State) (x : Sites) : (s.setSites x).sched = s.sched := rfl
@[simp] theorem State.dispatch_setSites (s : State) (x : Sites) : (s.setSites x).dispatch = s.dispatch := rfl
@[simp] theorem State.arbiter_setSites (s : State) (x : Sites) : (s.setSites x).arbiter = s.arbiter := rfl
@[simp] theorem State.sites_setSites (s : State) (x : Sites) : (s.setSites x).sites = x := rfl
@[simp] theorem State.returns_setSites (s : State) (x : Sites) : (s.setSites x).returns = s.returns := rfl
@[simp] theorem State.meter_setSites (s : State) (x : Sites) : (s.setSites x).meter = s.meter := rfl

/-! ## After setReturns -/

@[simp] theorem State.pending_setReturns (s : State) (x : List Report) : (s.setReturns x).pending = s.pending := rfl
@[simp] theorem State.sys_setReturns (s : State) (x : List Report) : (s.setReturns x).sys = s.sys := rfl
@[simp] theorem State.port_setReturns (s : State) (x : List Report) : (s.setReturns x).port = s.port := rfl
@[simp] theorem State.intake_setReturns (s : State) (x : List Report) : (s.setReturns x).intake = s.intake := rfl
@[simp] theorem State.dir_setReturns (s : State) (x : List Report) : (s.setReturns x).dir = s.dir := rfl
@[simp] theorem State.store_setReturns (s : State) (x : List Report) : (s.setReturns x).store = s.store := rfl
@[simp] theorem State.money_setReturns (s : State) (x : List Report) : (s.setReturns x).money = s.money := rfl
@[simp] theorem State.journal_setReturns (s : State) (x : List Report) : (s.setReturns x).journal = s.journal := rfl
@[simp] theorem State.sched_setReturns (s : State) (x : List Report) : (s.setReturns x).sched = s.sched := rfl
@[simp] theorem State.dispatch_setReturns (s : State) (x : List Report) : (s.setReturns x).dispatch = s.dispatch := rfl
@[simp] theorem State.arbiter_setReturns (s : State) (x : List Report) : (s.setReturns x).arbiter = s.arbiter := rfl
@[simp] theorem State.sites_setReturns (s : State) (x : List Report) : (s.setReturns x).sites = s.sites := rfl
@[simp] theorem State.returns_setReturns (s : State) (x : List Report) : (s.setReturns x).returns = x := rfl
@[simp] theorem State.meter_setReturns (s : State) (x : List Report) : (s.setReturns x).meter = s.meter := rfl

/-! ## After setMeter -/

@[simp] theorem State.pending_setMeter (s : State) (x : Meter) : (s.setMeter x).pending = s.pending := rfl
@[simp] theorem State.sys_setMeter (s : State) (x : Meter) : (s.setMeter x).sys = s.sys := rfl
@[simp] theorem State.port_setMeter (s : State) (x : Meter) : (s.setMeter x).port = s.port := rfl
@[simp] theorem State.intake_setMeter (s : State) (x : Meter) : (s.setMeter x).intake = s.intake := rfl
@[simp] theorem State.dir_setMeter (s : State) (x : Meter) : (s.setMeter x).dir = s.dir := rfl
@[simp] theorem State.store_setMeter (s : State) (x : Meter) : (s.setMeter x).store = s.store := rfl
@[simp] theorem State.money_setMeter (s : State) (x : Meter) : (s.setMeter x).money = s.money := rfl
@[simp] theorem State.journal_setMeter (s : State) (x : Meter) : (s.setMeter x).journal = s.journal := rfl
@[simp] theorem State.sched_setMeter (s : State) (x : Meter) : (s.setMeter x).sched = s.sched := rfl
@[simp] theorem State.dispatch_setMeter (s : State) (x : Meter) : (s.setMeter x).dispatch = s.dispatch := rfl
@[simp] theorem State.arbiter_setMeter (s : State) (x : Meter) : (s.setMeter x).arbiter = s.arbiter := rfl
@[simp] theorem State.sites_setMeter (s : State) (x : Meter) : (s.setMeter x).sites = s.sites := rfl
@[simp] theorem State.returns_setMeter (s : State) (x : Meter) : (s.setMeter x).returns = s.returns := rfl
@[simp] theorem State.meter_setMeter (s : State) (x : Meter) : (s.setMeter x).meter = x := rfl

/-! ## After setZone -/

@[simp] theorem State.pending_setZone (s : State) (z : Zone) (x : ZoneRec) : (s.setZone z x).pending = s.pending := rfl
@[simp] theorem State.sys_setZone (s : State) (z : Zone) (x : ZoneRec) : (s.setZone z x).sys = s.sys := rfl
@[simp] theorem State.port_setZone (s : State) (z : Zone) (x : ZoneRec) : (s.setZone z x).port = s.port := rfl
@[simp] theorem State.intake_setZone (s : State) (z : Zone) (x : ZoneRec) : (s.setZone z x).intake = s.intake := rfl
@[simp] theorem State.dir_setZone (s : State) (z : Zone) (x : ZoneRec) : (s.setZone z x).dir = s.dir := rfl
@[simp] theorem State.store_setZone (s : State) (z : Zone) (x : ZoneRec) : (s.setZone z x).store = s.store := rfl
@[simp] theorem State.money_setZone (s : State) (z : Zone) (x : ZoneRec) : (s.setZone z x).money = s.money := rfl
@[simp] theorem State.journal_setZone (s : State) (z : Zone) (x : ZoneRec) : (s.setZone z x).journal = s.journal := rfl
@[simp] theorem State.sched_setZone (s : State) (z : Zone) (x : ZoneRec) : (s.setZone z x).sched = s.sched := rfl
@[simp] theorem State.arbiter_setZone (s : State) (z : Zone) (x : ZoneRec) : (s.setZone z x).arbiter = s.arbiter := rfl
@[simp] theorem State.sites_setZone (s : State) (z : Zone) (x : ZoneRec) : (s.setZone z x).sites = s.sites := rfl
@[simp] theorem State.returns_setZone (s : State) (z : Zone) (x : ZoneRec) : (s.setZone z x).returns = s.returns := rfl
@[simp] theorem State.meter_setZone (s : State) (z : Zone) (x : ZoneRec) : (s.setZone z x).meter = s.meter := rfl

/-! ## After setLine -/

@[simp] theorem State.pending_setLine (s : State) (n : LineId) (x : Line) : (s.setLine n x).pending = s.pending := rfl
@[simp] theorem State.sys_setLine (s : State) (n : LineId) (x : Line) : (s.setLine n x).sys = s.sys := rfl
@[simp] theorem State.port_setLine (s : State) (n : LineId) (x : Line) : (s.setLine n x).port = s.port := rfl
@[simp] theorem State.dir_setLine (s : State) (n : LineId) (x : Line) : (s.setLine n x).dir = s.dir := rfl
@[simp] theorem State.store_setLine (s : State) (n : LineId) (x : Line) : (s.setLine n x).store = s.store := rfl
@[simp] theorem State.money_setLine (s : State) (n : LineId) (x : Line) : (s.setLine n x).money = s.money := rfl
@[simp] theorem State.journal_setLine (s : State) (n : LineId) (x : Line) : (s.setLine n x).journal = s.journal := rfl
@[simp] theorem State.sched_setLine (s : State) (n : LineId) (x : Line) : (s.setLine n x).sched = s.sched := rfl
@[simp] theorem State.dispatch_setLine (s : State) (n : LineId) (x : Line) : (s.setLine n x).dispatch = s.dispatch := rfl
@[simp] theorem State.arbiter_setLine (s : State) (n : LineId) (x : Line) : (s.setLine n x).arbiter = s.arbiter := rfl
@[simp] theorem State.sites_setLine (s : State) (n : LineId) (x : Line) : (s.setLine n x).sites = s.sites := rfl
@[simp] theorem State.returns_setLine (s : State) (n : LineId) (x : Line) : (s.setLine n x).returns = s.returns := rfl
@[simp] theorem State.meter_setLine (s : State) (n : LineId) (x : Line) : (s.setLine n x).meter = s.meter := rfl

/-! ## After setLink -/

@[simp] theorem State.pending_setLink (s : State) (z : Zone) (x : LinkRec) : (s.setLink z x).pending = s.pending := rfl
@[simp] theorem State.sys_setLink (s : State) (z : Zone) (x : LinkRec) : (s.setLink z x).sys = s.sys := rfl
@[simp] theorem State.port_setLink (s : State) (z : Zone) (x : LinkRec) : (s.setLink z x).port = s.port := rfl
@[simp] theorem State.intake_setLink (s : State) (z : Zone) (x : LinkRec) : (s.setLink z x).intake = s.intake := rfl
@[simp] theorem State.dir_setLink (s : State) (z : Zone) (x : LinkRec) : (s.setLink z x).dir = s.dir := rfl
@[simp] theorem State.store_setLink (s : State) (z : Zone) (x : LinkRec) : (s.setLink z x).store = s.store := rfl
@[simp] theorem State.money_setLink (s : State) (z : Zone) (x : LinkRec) : (s.setLink z x).money = s.money := rfl
@[simp] theorem State.journal_setLink (s : State) (z : Zone) (x : LinkRec) : (s.setLink z x).journal = s.journal := rfl
@[simp] theorem State.sched_setLink (s : State) (z : Zone) (x : LinkRec) : (s.setLink z x).sched = s.sched := rfl
@[simp] theorem State.dispatch_setLink (s : State) (z : Zone) (x : LinkRec) : (s.setLink z x).dispatch = s.dispatch := rfl
@[simp] theorem State.arbiter_setLink (s : State) (z : Zone) (x : LinkRec) : (s.setLink z x).arbiter = s.arbiter := rfl
@[simp] theorem State.returns_setLink (s : State) (z : Zone) (x : LinkRec) : (s.setLink z x).returns = s.returns := rfl
@[simp] theorem State.meter_setLink (s : State) (z : Zone) (x : LinkRec) : (s.setLink z x).meter = s.meter := rfl

/-! ## After setGroup -/

@[simp] theorem State.pending_setGroup (s : State) (g : GroupId) (x : GroupRec) : (s.setGroup g x).pending = s.pending := rfl
@[simp] theorem State.sys_setGroup (s : State) (g : GroupId) (x : GroupRec) : (s.setGroup g x).sys = s.sys := rfl
@[simp] theorem State.port_setGroup (s : State) (g : GroupId) (x : GroupRec) : (s.setGroup g x).port = s.port := rfl
@[simp] theorem State.intake_setGroup (s : State) (g : GroupId) (x : GroupRec) : (s.setGroup g x).intake = s.intake := rfl
@[simp] theorem State.dir_setGroup (s : State) (g : GroupId) (x : GroupRec) : (s.setGroup g x).dir = s.dir := rfl
@[simp] theorem State.store_setGroup (s : State) (g : GroupId) (x : GroupRec) : (s.setGroup g x).store = s.store := rfl
@[simp] theorem State.money_setGroup (s : State) (g : GroupId) (x : GroupRec) : (s.setGroup g x).money = s.money := rfl
@[simp] theorem State.journal_setGroup (s : State) (g : GroupId) (x : GroupRec) : (s.setGroup g x).journal = s.journal := rfl
@[simp] theorem State.sched_setGroup (s : State) (g : GroupId) (x : GroupRec) : (s.setGroup g x).sched = s.sched := rfl
@[simp] theorem State.dispatch_setGroup (s : State) (g : GroupId) (x : GroupRec) : (s.setGroup g x).dispatch = s.dispatch := rfl
@[simp] theorem State.sites_setGroup (s : State) (g : GroupId) (x : GroupRec) : (s.setGroup g x).sites = s.sites := rfl
@[simp] theorem State.returns_setGroup (s : State) (g : GroupId) (x : GroupRec) : (s.setGroup g x).returns = s.returns := rfl
@[simp] theorem State.meter_setGroup (s : State) (g : GroupId) (x : GroupRec) : (s.setGroup g x).meter = s.meter := rfl

/-! ## After setZoneMeter -/

@[simp] theorem State.pending_setZoneMeter (s : State) (z : Zone) (x : ZoneMeter) : (s.setZoneMeter z x).pending = s.pending := rfl
@[simp] theorem State.sys_setZoneMeter (s : State) (z : Zone) (x : ZoneMeter) : (s.setZoneMeter z x).sys = s.sys := rfl
@[simp] theorem State.port_setZoneMeter (s : State) (z : Zone) (x : ZoneMeter) : (s.setZoneMeter z x).port = s.port := rfl
@[simp] theorem State.intake_setZoneMeter (s : State) (z : Zone) (x : ZoneMeter) : (s.setZoneMeter z x).intake = s.intake := rfl
@[simp] theorem State.dir_setZoneMeter (s : State) (z : Zone) (x : ZoneMeter) : (s.setZoneMeter z x).dir = s.dir := rfl
@[simp] theorem State.store_setZoneMeter (s : State) (z : Zone) (x : ZoneMeter) : (s.setZoneMeter z x).store = s.store := rfl
@[simp] theorem State.money_setZoneMeter (s : State) (z : Zone) (x : ZoneMeter) : (s.setZoneMeter z x).money = s.money := rfl
@[simp] theorem State.journal_setZoneMeter (s : State) (z : Zone) (x : ZoneMeter) : (s.setZoneMeter z x).journal = s.journal := rfl
@[simp] theorem State.sched_setZoneMeter (s : State) (z : Zone) (x : ZoneMeter) : (s.setZoneMeter z x).sched = s.sched := rfl
@[simp] theorem State.dispatch_setZoneMeter (s : State) (z : Zone) (x : ZoneMeter) : (s.setZoneMeter z x).dispatch = s.dispatch := rfl
@[simp] theorem State.arbiter_setZoneMeter (s : State) (z : Zone) (x : ZoneMeter) : (s.setZoneMeter z x).arbiter = s.arbiter := rfl
@[simp] theorem State.sites_setZoneMeter (s : State) (z : Zone) (x : ZoneMeter) : (s.setZoneMeter z x).sites = s.sites := rfl
@[simp] theorem State.returns_setZoneMeter (s : State) (z : Zone) (x : ZoneMeter) : (s.setZoneMeter z x).returns = s.returns := rfl

/-! ## After modifyPage -/

@[simp] theorem State.pending_modifyPage (s : State) (r : Nat) (f : Page → Page) : (s.modifyPage r f).pending = s.pending := rfl
@[simp] theorem State.sys_modifyPage (s : State) (r : Nat) (f : Page → Page) : (s.modifyPage r f).sys = s.sys := rfl
@[simp] theorem State.port_modifyPage (s : State) (r : Nat) (f : Page → Page) : (s.modifyPage r f).port = s.port := rfl
@[simp] theorem State.intake_modifyPage (s : State) (r : Nat) (f : Page → Page) : (s.modifyPage r f).intake = s.intake := rfl
@[simp] theorem State.dir_modifyPage (s : State) (r : Nat) (f : Page → Page) : (s.modifyPage r f).dir = s.dir := rfl
@[simp] theorem State.money_modifyPage (s : State) (r : Nat) (f : Page → Page) : (s.modifyPage r f).money = s.money := rfl
@[simp] theorem State.journal_modifyPage (s : State) (r : Nat) (f : Page → Page) : (s.modifyPage r f).journal = s.journal := rfl
@[simp] theorem State.sched_modifyPage (s : State) (r : Nat) (f : Page → Page) : (s.modifyPage r f).sched = s.sched := rfl
@[simp] theorem State.dispatch_modifyPage (s : State) (r : Nat) (f : Page → Page) : (s.modifyPage r f).dispatch = s.dispatch := rfl
@[simp] theorem State.arbiter_modifyPage (s : State) (r : Nat) (f : Page → Page) : (s.modifyPage r f).arbiter = s.arbiter := rfl
@[simp] theorem State.sites_modifyPage (s : State) (r : Nat) (f : Page → Page) : (s.modifyPage r f).sites = s.sites := rfl
@[simp] theorem State.returns_modifyPage (s : State) (r : Nat) (f : Page → Page) : (s.modifyPage r f).returns = s.returns := rfl
@[simp] theorem State.meter_modifyPage (s : State) (r : Nat) (f : Page → Page) : (s.modifyPage r f).meter = s.meter := rfl

/-! ## After modifyAccount -/

@[simp] theorem State.pending_modifyAccount (s : State) (a : Nat) (f : Account → Account) : (s.modifyAccount a f).pending = s.pending := rfl
@[simp] theorem State.sys_modifyAccount (s : State) (a : Nat) (f : Account → Account) : (s.modifyAccount a f).sys = s.sys := rfl
@[simp] theorem State.port_modifyAccount (s : State) (a : Nat) (f : Account → Account) : (s.modifyAccount a f).port = s.port := rfl
@[simp] theorem State.intake_modifyAccount (s : State) (a : Nat) (f : Account → Account) : (s.modifyAccount a f).intake = s.intake := rfl
@[simp] theorem State.dir_modifyAccount (s : State) (a : Nat) (f : Account → Account) : (s.modifyAccount a f).dir = s.dir := rfl
@[simp] theorem State.store_modifyAccount (s : State) (a : Nat) (f : Account → Account) : (s.modifyAccount a f).store = s.store := rfl
@[simp] theorem State.journal_modifyAccount (s : State) (a : Nat) (f : Account → Account) : (s.modifyAccount a f).journal = s.journal := rfl
@[simp] theorem State.sched_modifyAccount (s : State) (a : Nat) (f : Account → Account) : (s.modifyAccount a f).sched = s.sched := rfl
@[simp] theorem State.dispatch_modifyAccount (s : State) (a : Nat) (f : Account → Account) : (s.modifyAccount a f).dispatch = s.dispatch := rfl
@[simp] theorem State.arbiter_modifyAccount (s : State) (a : Nat) (f : Account → Account) : (s.modifyAccount a f).arbiter = s.arbiter := rfl
@[simp] theorem State.sites_modifyAccount (s : State) (a : Nat) (f : Account → Account) : (s.modifyAccount a f).sites = s.sites := rfl
@[simp] theorem State.returns_modifyAccount (s : State) (a : Nat) (f : Account → Account) : (s.modifyAccount a f).returns = s.returns := rfl
@[simp] theorem State.meter_modifyAccount (s : State) (a : Nat) (f : Account → Account) : (s.modifyAccount a f).meter = s.meter := rfl

/-! ## After modifyPlan -/

@[simp] theorem State.pending_modifyPlan (s : State) (p : Nat) (f : Plan → Plan) : (s.modifyPlan p f).pending = s.pending := rfl
@[simp] theorem State.sys_modifyPlan (s : State) (p : Nat) (f : Plan → Plan) : (s.modifyPlan p f).sys = s.sys := rfl
@[simp] theorem State.port_modifyPlan (s : State) (p : Nat) (f : Plan → Plan) : (s.modifyPlan p f).port = s.port := rfl
@[simp] theorem State.intake_modifyPlan (s : State) (p : Nat) (f : Plan → Plan) : (s.modifyPlan p f).intake = s.intake := rfl
@[simp] theorem State.dir_modifyPlan (s : State) (p : Nat) (f : Plan → Plan) : (s.modifyPlan p f).dir = s.dir := rfl
@[simp] theorem State.store_modifyPlan (s : State) (p : Nat) (f : Plan → Plan) : (s.modifyPlan p f).store = s.store := rfl
@[simp] theorem State.journal_modifyPlan (s : State) (p : Nat) (f : Plan → Plan) : (s.modifyPlan p f).journal = s.journal := rfl
@[simp] theorem State.sched_modifyPlan (s : State) (p : Nat) (f : Plan → Plan) : (s.modifyPlan p f).sched = s.sched := rfl
@[simp] theorem State.dispatch_modifyPlan (s : State) (p : Nat) (f : Plan → Plan) : (s.modifyPlan p f).dispatch = s.dispatch := rfl
@[simp] theorem State.arbiter_modifyPlan (s : State) (p : Nat) (f : Plan → Plan) : (s.modifyPlan p f).arbiter = s.arbiter := rfl
@[simp] theorem State.sites_modifyPlan (s : State) (p : Nat) (f : Plan → Plan) : (s.modifyPlan p f).sites = s.sites := rfl
@[simp] theorem State.returns_modifyPlan (s : State) (p : Nat) (f : Plan → Plan) : (s.modifyPlan p f).returns = s.returns := rfl
@[simp] theorem State.meter_modifyPlan (s : State) (p : Nat) (f : Plan → Plan) : (s.modifyPlan p f).meter = s.meter := rfl

/-! ## After setMailbox -/

@[simp] theorem State.pending_setMailbox (s : State) (i : Nat) (l : List Nat) : (s.setMailbox i l).pending = s.pending := rfl
@[simp] theorem State.sys_setMailbox (s : State) (i : Nat) (l : List Nat) : (s.setMailbox i l).sys = s.sys := rfl
@[simp] theorem State.port_setMailbox (s : State) (i : Nat) (l : List Nat) : (s.setMailbox i l).port = s.port := rfl
@[simp] theorem State.intake_setMailbox (s : State) (i : Nat) (l : List Nat) : (s.setMailbox i l).intake = s.intake := rfl
@[simp] theorem State.dir_setMailbox (s : State) (i : Nat) (l : List Nat) : (s.setMailbox i l).dir = s.dir := rfl
@[simp] theorem State.money_setMailbox (s : State) (i : Nat) (l : List Nat) : (s.setMailbox i l).money = s.money := rfl
@[simp] theorem State.journal_setMailbox (s : State) (i : Nat) (l : List Nat) : (s.setMailbox i l).journal = s.journal := rfl
@[simp] theorem State.sched_setMailbox (s : State) (i : Nat) (l : List Nat) : (s.setMailbox i l).sched = s.sched := rfl
@[simp] theorem State.dispatch_setMailbox (s : State) (i : Nat) (l : List Nat) : (s.setMailbox i l).dispatch = s.dispatch := rfl
@[simp] theorem State.arbiter_setMailbox (s : State) (i : Nat) (l : List Nat) : (s.setMailbox i l).arbiter = s.arbiter := rfl
@[simp] theorem State.sites_setMailbox (s : State) (i : Nat) (l : List Nat) : (s.setMailbox i l).sites = s.sites := rfl
@[simp] theorem State.returns_setMailbox (s : State) (i : Nat) (l : List Nat) : (s.setMailbox i l).returns = s.returns := rfl
@[simp] theorem State.meter_setMailbox (s : State) (i : Nat) (l : List Nat) : (s.setMailbox i l).meter = s.meter := rfl

/-! ## The record written is the record read -/

@[simp] theorem State.zone_setZone (s : State) (z : Zone) (x : ZoneRec) : (s.setZone z x).zone z = x := by
  simp [State.zone, State.setZone]

theorem State.zone_setZone_ne (s : State) {z y : Zone} (x : ZoneRec) (h : y ≠ z) : (s.setZone z x).zone y = s.zone y := by
  have : z.val ≠ y.val := fun e => h (Fin.ext e.symm)
  simp [State.zone, State.setZone, this]

@[simp] theorem State.line_setLine (s : State) (n : LineId) (x : Line) : (s.setLine n x).line n = x := by
  simp [State.line, State.setLine]

theorem State.line_setLine_ne (s : State) {n m : LineId} (x : Line) (h : m ≠ n) : (s.setLine n x).line m = s.line m := by
  have : n.val ≠ m.val := fun e => h (Fin.ext e.symm)
  simp [State.line, State.setLine, this]

@[simp] theorem State.link_setLink (s : State) (z : Zone) (x : LinkRec) : (s.setLink z x).link z = x := by
  simp [State.link, State.setLink]

theorem State.link_setLink_ne (s : State) {z y : Zone} (x : LinkRec) (h : y ≠ z) : (s.setLink z x).link y = s.link y := by
  have : z.val ≠ y.val := fun e => h (Fin.ext e.symm)
  simp [State.link, State.setLink, this]

@[simp] theorem State.group_setGroup (s : State) (g : GroupId) (x : GroupRec) : (s.setGroup g x).group g = x := by
  simp [State.group, State.setGroup]

theorem State.group_setGroup_ne (s : State) {g k : GroupId} (x : GroupRec) (h : k ≠ g) :
    (s.setGroup g x).group k = s.group k := by
  have : g.val ≠ k.val := fun e => h (Fin.ext e.symm)
  simp [State.group, State.setGroup, this]

@[simp] theorem State.zoneMeter_setZoneMeter (s : State) (z : Zone) (x : ZoneMeter) :
    (s.setZoneMeter z x).zoneMeter z = x := by
  simp [State.zoneMeter, State.setZoneMeter]

theorem State.zoneMeter_setZoneMeter_ne (s : State) {z y : Zone} (x : ZoneMeter) (h : y ≠ z) :
    (s.setZoneMeter z x).zoneMeter y = s.zoneMeter y := by
  have : z.val ≠ y.val := fun e => h (Fin.ext e.symm)
  simp [State.zoneMeter, State.setZoneMeter, this]

/-! ## A block written twice -/

@[simp] theorem State.setPending_setPending (s : State) (x y : List Instr) : (s.setPending x).setPending y = s.setPending y := rfl
@[simp] theorem State.setSys_setSys (s : State) (x y : Sys) : (s.setSys x).setSys y = s.setSys y := rfl
@[simp] theorem State.setPort_setPort (s : State) (x y : Port) : (s.setPort x).setPort y = s.setPort y := rfl
@[simp] theorem State.setIntake_setIntake (s : State) (x y : Intake) : (s.setIntake x).setIntake y = s.setIntake y := rfl
@[simp] theorem State.setDir_setDir (s : State) (x y : Directory) : (s.setDir x).setDir y = s.setDir y := rfl
@[simp] theorem State.setStore_setStore (s : State) (x y : PageStore) : (s.setStore x).setStore y = s.setStore y := rfl
@[simp] theorem State.setMoney_setMoney (s : State) (x y : AccountUnit) : (s.setMoney x).setMoney y = s.setMoney y := rfl
@[simp] theorem State.setJournal_setJournal (s : State) (x y : Journal) : (s.setJournal x).setJournal y = s.setJournal y := rfl
@[simp] theorem State.setSched_setSched (s : State) (x y : Scheduler) : (s.setSched x).setSched y = s.setSched y := rfl
@[simp] theorem State.setDispatch_setDispatch (s : State) (x y : DispatchUnit) : (s.setDispatch x).setDispatch y = s.setDispatch y := rfl
@[simp] theorem State.setArbiter_setArbiter (s : State) (x y : Vector GroupRec 4) : (s.setArbiter x).setArbiter y = s.setArbiter y := rfl
@[simp] theorem State.setSites_setSites (s : State) (x y : Sites) : (s.setSites x).setSites y = s.setSites y := rfl
@[simp] theorem State.setReturns_setReturns (s : State) (x y : List Report) : (s.setReturns x).setReturns y = s.setReturns y := rfl
@[simp] theorem State.setMeter_setMeter (s : State) (x y : Meter) : (s.setMeter x).setMeter y = s.setMeter y := rfl

end Sys2Proof.Machine
end

