-- ==== Sys2Proof/Laws/Ops.lean ====
section
/-! SUPPORT. Laws/Ops.lean: what the shared operations can do, said once: the execution of an order, a raised notice, the output
line, the passing of time, the line of a site link and an abandonment at it, prompts, and the ends of an interval. -/

namespace Sys2Proof.Machine

/-! ## The execution of an order -/

/-- An order that can be executed is executed by the row that accepts it, and answered. -/
theorem runOrder_at {s : State} {kind tag : Byte} {body : List Byte} {rest : List Order} {accepts : Order → Bool}
    {meaning : List Byte → State → State × Result} (h : OrderAt s kind tag body rest)
    (ha : accepts ⟨kind, tag, body⟩ = true) :
    runOrder s accepts meaning
      = answered (meaning body (taken s rest)).1 kind tag (meaning body (taken s rest)).2 := by
  obtain ⟨h1, h2, h3⟩ := h
  have hr : (s.port.restart != RestartState.due) = true := by simpa using h3
  have hn : s.port.nextOrder accepts = some (⟨kind, tag, body⟩, { s.port with orders := rest }) := by
    simp [Port.nextOrder, h1, h2, ha, hr]
  unfold runOrder
  rw [hn]
  rfl

/-- The same, from what the meaning gives. -/
theorem runOrder_gives {s t : State} {kind tag : Byte} {body : List Byte} {rest : List Order} {accepts : Order → Bool}
    {meaning : List Byte → State → State × Result} {r : Result} (h : OrderAt s kind tag body rest)
    (ha : accepts ⟨kind, tag, body⟩ = true) (hm : meaning body (taken s rest) = (t, r)) :
    runOrder s accepts meaning = answered t kind tag r := by
  rw [runOrder_at h ha, hm]

/-- An order row that finds no order of its own changes nothing (log 4). -/
theorem runOrder_none {s : State} {accepts : Order → Bool} {meaning : List Byte → State → State × Result}
    (h : s.port.nextOrder accepts = none) : runOrder s accepts meaning = .next s := by
  unfold runOrder
  rw [h]

/-- What an order row can do: nothing, or execute the head of the queue and answer it. -/
theorem runOrder_cases (s : State) (accepts : Order → Bool) (meaning : List Byte → State → State × Result) :
    runOrder s accepts meaning = .next s ∨
      ∃ o rest, s.port.orders = o :: rest ∧ s.port.slot = none ∧ s.port.restart ≠ .due ∧ accepts o = true ∧
        runOrder s accepts meaning
          = answered (meaning o.body (taken s rest)).1 o.kind o.tag (meaning o.body (taken s rest)).2 := by
  cases ho : s.port.orders with
  | nil => left; exact runOrder_none (by simp [Port.nextOrder, ho])
  | cons o rest =>
    cases hc : accepts o && s.port.slot.isNone && s.port.restart != .due with
    | false => left; exact runOrder_none (by simp only [Port.nextOrder, ho, hc]; rfl)
    | true =>
      right
      simp only [Bool.and_eq_true, Option.isNone_iff_eq_none, bne_iff_ne, ne_eq] at hc
      refine ⟨o, rest, rfl, hc.1.2, hc.2, hc.1.1, ?_⟩
      have h : OrderAt s o.kind o.tag o.body rest := ⟨ho, hc.1.2, hc.2⟩
      exact runOrder_at h hc.1.1

/-! ## A raised notice touches the notice queue and the lost count only -/

@[simp] theorem raise_pending (s : State) (n : Notice) : (raise s n).pending = s.pending := by
  unfold raise; dsimp only; repeat' split
  all_goals rfl
@[simp] theorem raise_sys (s : State) (n : Notice) : (raise s n).sys = s.sys := by
  unfold raise; dsimp only; repeat' split
  all_goals rfl
@[simp] theorem raise_intake (s : State) (n : Notice) : (raise s n).intake = s.intake := by
  unfold raise; dsimp only; repeat' split
  all_goals rfl
@[simp] theorem raise_dir (s : State) (n : Notice) : (raise s n).dir = s.dir := by
  unfold raise; dsimp only; repeat' split
  all_goals rfl
@[simp] theorem raise_store (s : State) (n : Notice) : (raise s n).store = s.store := by
  unfold raise; dsimp only; repeat' split
  all_goals rfl
@[simp] theorem raise_money (s : State) (n : Notice) : (raise s n).money = s.money := by
  unfold raise; dsimp only; repeat' split
  all_goals rfl
@[simp] theorem raise_journal (s : State) (n : Notice) : (raise s n).journal = s.journal := by
  unfold raise; dsimp only; repeat' split
  all_goals rfl
@[simp] theorem raise_sched (s : State) (n : Notice) : (raise s n).sched = s.sched := by
  unfold raise; dsimp only; repeat' split
  all_goals rfl
@[simp] theorem raise_dispatch (s : State) (n : Notice) : (raise s n).dispatch = s.dispatch := by
  unfold raise; dsimp only; repeat' split
  all_goals rfl
@[simp] theorem raise_arbiter (s : State) (n : Notice) : (raise s n).arbiter = s.arbiter := by
  unfold raise; dsimp only; repeat' split
  all_goals rfl
@[simp] theorem raise_sites (s : State) (n : Notice) : (raise s n).sites = s.sites := by
  unfold raise; dsimp only; repeat' split
  all_goals rfl
@[simp] theorem raise_returns (s : State) (n : Notice) : (raise s n).returns = s.returns := by
  unfold raise; dsimp only; repeat' split
  all_goals rfl
@[simp] theorem raise_meter (s : State) (n : Notice) : (raise s n).meter = s.meter := by
  unfold raise; dsimp only; repeat' split
  all_goals rfl

/-- What raising a notice can do to the port (R178). -/
theorem raise_port (s : State) (n : Notice) :
    ∃ notices lost, (raise s n).port = { s.port with notices := notices, lost := lost } := by
  unfold raise; dsimp only
  repeat' split
  all_goals exact ⟨_, _, rfl⟩

/-- With none lost and a place free a notice is appended, and none is lost (R178). -/
theorem raise_room {s : State} (n : Notice) (hl : s.port.lost = 0) (h : s.port.notices.length < 64) :
    raise s n = s.setPort { s.port with notices := s.port.notices ++ [n] } := by
  simp [raise, Config.noticePlaces, hl, h]

/-- Where none is lost after a notice has been raised, it stands behind every notice before it (R178). -/
theorem raise_said {s : State} {n : Notice} (h : (raise s n).port.lost = 0) :
    ∃ between, (raise s n).port.notices = s.port.notices ++ between ++ [n] := by
  by_cases lost : s.port.lost = 0
  · by_cases room : s.port.notices.length < Config.noticePlaces
    · exact ⟨[], by simp [raise, lost, room]⟩
    · simp [raise, lost, room] at h
  · by_cases room : s.port.notices.length + 2 ≤ Config.noticePlaces
    · exact ⟨[.noticesLost s.port.lost], by simp [raise, lost, room]⟩
    · simp [raise, lost, room] at h

/-- A notice queue within its bounds stays within them (R178). -/
theorem raise_bounded (s : State) (n : Notice) (h : s.port.notices.length ≤ 64) (hl : s.port.lost ≤ 65535) :
    (raise s n).port.notices.length ≤ 64 ∧ (raise s n).port.lost ≤ 65535 := by
  unfold raise
  dsimp only
  repeat' split
  all_goals simp only [State.port_setPort, Config.noticePlaces, List.length_append, List.length_cons, List.length_nil] at *
  all_goals omega

/-! ## The output line touches the frame being sent, the notice queue and the mark of a first frame only -/

/-- What the output line can do (R179). -/
theorem pump_port (s : State) :
    ∃ notices sending silent,
      pump s = s.setPort { s.port with notices := notices, sending := sending, silent := silent } := by
  unfold pump
  split
  · refine ⟨s.port.beginFrame.notices, s.port.beginFrame.sending, s.port.beginFrame.silent, ?_⟩
    congr 1
    unfold Port.beginFrame Port.sendNotice Port.send
    repeat' split
    all_goals rfl
  · exact ⟨s.port.notices, s.port.sending, s.port.silent, rfl⟩

/-- A port that has begun no frame since its power-up begins with its head notice, whatever answers wait (R184). -/
theorem Port.beginFrame_silent {p : Port} {n : Notice} {rest : List Notice} (h : p.silent = true)
    (q : p.notices = n :: rest) : p.beginFrame = { p.send .notice n.frame with notices := rest } := by
  simp [Port.beginFrame, Port.sendNotice, h, q]

/-- Any other port sends the answer in its slot when that is the earliest to have become ready (R179). -/
theorem Port.beginFrame_slot {p : Port} {a : Answer} {more : List Claim} (h : p.silent = false)
    (r : p.ready = .slot :: more) (k : p.slot = some a) : p.beginFrame = p.send .slot a.frame := by
  simp [Port.beginFrame, h, r, k]

/-- And the earliest refusal likewise (R177, R179). -/
theorem Port.beginFrame_refusal {p : Port} {a : Answer} {more : List Claim} {others : List Answer} (h : p.silent = false)
    (r : p.ready = .refusal :: more) (k : p.refusals = a :: others) : p.beginFrame = p.send .refusal a.frame := by
  simp [Port.beginFrame, h, r, k]

/-- With no answer waiting it sends its head notice, if there is one (R179). -/
theorem Port.beginFrame_notice {p : Port} (r : p.ready = []) : p.beginFrame = p.sendNotice := by
  simp [Port.beginFrame, r]

@[simp] theorem pump_pending (s : State) : (pump s).pending = s.pending := by unfold pump; split <;> rfl
@[simp] theorem pump_sys (s : State) : (pump s).sys = s.sys := by unfold pump; split <;> rfl
@[simp] theorem pump_intake (s : State) : (pump s).intake = s.intake := by unfold pump; split <;> rfl
@[simp] theorem pump_dir (s : State) : (pump s).dir = s.dir := by unfold pump; split <;> rfl
@[simp] theorem pump_store (s : State) : (pump s).store = s.store := by unfold pump; split <;> rfl
@[simp] theorem pump_money (s : State) : (pump s).money = s.money := by unfold pump; split <;> rfl
@[simp] theorem pump_journal (s : State) : (pump s).journal = s.journal := by unfold pump; split <;> rfl
@[simp] theorem pump_sched (s : State) : (pump s).sched = s.sched := by unfold pump; split <;> rfl
@[simp] theorem pump_dispatch (s : State) : (pump s).dispatch = s.dispatch := by unfold pump; split <;> rfl
@[simp] theorem pump_arbiter (s : State) : (pump s).arbiter = s.arbiter := by unfold pump; split <;> rfl
@[simp] theorem pump_sites (s : State) : (pump s).sites = s.sites := by unfold pump; split <;> rfl
@[simp] theorem pump_returns (s : State) : (pump s).returns = s.returns := by unfold pump; split <;> rfl
@[simp] theorem pump_meter (s : State) : (pump s).meter = s.meter := by unfold pump; split <;> rfl

/-! ## Time touches the clocks only -/

@[simp] theorem elapse_pending (s : State) (ms : Nat) : (elapse s ms).pending = s.pending := rfl
@[simp] theorem elapse_port (s : State) (ms : Nat) : (elapse s ms).port = s.port := rfl
@[simp] theorem elapse_intake (s : State) (ms : Nat) : (elapse s ms).intake = s.intake := rfl
@[simp] theorem elapse_dir (s : State) (ms : Nat) : (elapse s ms).dir = s.dir := rfl
@[simp] theorem elapse_store (s : State) (ms : Nat) : (elapse s ms).store = s.store := rfl
@[simp] theorem elapse_money (s : State) (ms : Nat) : (elapse s ms).money = s.money := rfl
@[simp] theorem elapse_journal (s : State) (ms : Nat) : (elapse s ms).journal = s.journal := rfl
@[simp] theorem elapse_sched (s : State) (ms : Nat) : (elapse s ms).sched = s.sched := rfl
@[simp] theorem elapse_dispatch (s : State) (ms : Nat) : (elapse s ms).dispatch = s.dispatch := rfl
@[simp] theorem elapse_arbiter (s : State) (ms : Nat) : (elapse s ms).arbiter = s.arbiter := rfl
@[simp] theorem elapse_sites (s : State) (ms : Nat) : (elapse s ms).sites = s.sites := rfl
@[simp] theorem elapse_returns (s : State) (ms : Nat) : (elapse s ms).returns = s.returns := rfl
@[simp] theorem elapse_meter (s : State) (ms : Nat) : (elapse s ms).meter = s.meter := rfl

/-! ## The line of a link and the TXD of an intake line -/

/-- A POLL that falls due on a free line is sent, the next 200 ms after it (R130). -/
theorem LinkRec.duePoll_sent {l : LinkRec} (h : l.sendingBatch = false) (base : Nat) :
    l.duePoll base = { l with tx := pollFrame l, pollWaiting := false, pollDue := some (base + Config.pollInterval) } := by
  simp [LinkRec.duePoll, LinkRec.poll, h]

/-- A POLL that falls due behind a BATCH frame waits (R130). -/
theorem LinkRec.duePoll_waits {l : LinkRec} (h : l.sendingBatch = true) (base : Nat) :
    l.duePoll base = { l with pollWaiting := true, pollDue := none } := by
  simp [LinkRec.duePoll, h]

/-- A POLL falling due moves the line and the POLL timer only. -/
theorem LinkRec.duePoll_frame (l : LinkRec) (base : Nat) :
    l.duePoll base
      = { l with
          tx := (l.duePoll base).tx, pollWaiting := (l.duePoll base).pollWaiting, pollDue := (l.duePoll base).pollDue } := by
  unfold LinkRec.duePoll
  split <;> rfl

/-- An abandonment leaves the link as R135 and R134 say, whichever state its batch is in. -/
theorem linkAbandon_link (s : State) (z : Zone) :
    (linkAbandon s z).link z = abandonedLink (s.link z) s.sys.base := by
  unfold linkAbandon abandonedLink
  dsimp only
  cases (s.link z).batch with
  | none => rfl
  | withheld _ => exact State.link_setLink s z _
  | sent => cases (s.link z).resyncPending <;> simp [beginResync, windowEnds]
  | onAir => exact State.link_setLink s z _

/-- A prompt leaves its line as `prompted` says. -/
theorem promptInto_eq (s : State) (n : LineId) (p : Prompt) (asm : Assembler) :
    promptInto s n p asm
      = s.setLine n (prompted (s.line n) p asm (if asm = .awaitNumber then false else (s.line n).overrunLatch)) := rfl

/-! ## The ends of an interval -/

/-- The first zone that has an end to take takes it, and it alone (R169). -/
theorem takeIntervalEnd_cons {s : State} {z : Zone} {rest : List Zone} (h : s.meter.owing = z :: rest) :
    takeIntervalEnd s = zoneIntervalEnd (s.setMeter { s.meter with owing := rest }) z := by
  simp [takeIntervalEnd, h]

/-- With no zone that has an end to take nothing is taken. -/
theorem takeIntervalEnd_nil {s : State} (h : s.meter.owing = []) : takeIntervalEnd s = s := by
  simp [takeIntervalEnd, h]

end Sys2Proof.Machine
end

