-- ==== Sys2Proof/Laws/Named.lean ====
section
/-! SUPPORT. Laws/Named.lean: what the named parts of the state (a zone, a page, an account, ...) read after an update of another
block, an executed order's leaving the queue, a notice, the output line, and the passing of time. -/

namespace Sys2Proof.Machine

/-! ## State.zone -/

@[simp] theorem State.zone_setPending (s : State) (x : List Instr) (z : Zone) : (s.setPending x).zone z = s.zone z := rfl
@[simp] theorem State.zone_setSys (s : State) (x : Sys) (z : Zone) : (s.setSys x).zone z = s.zone z := rfl
@[simp] theorem State.zone_setPort (s : State) (x : Port) (z : Zone) : (s.setPort x).zone z = s.zone z := rfl
@[simp] theorem State.zone_setIntake (s : State) (x : Intake) (z : Zone) : (s.setIntake x).zone z = s.zone z := rfl
@[simp] theorem State.zone_setDir (s : State) (x : Directory) (z : Zone) : (s.setDir x).zone z = s.zone z := rfl
@[simp] theorem State.zone_setStore (s : State) (x : PageStore) (z : Zone) : (s.setStore x).zone z = s.zone z := rfl
@[simp] theorem State.zone_setMoney (s : State) (x : AccountUnit) (z : Zone) : (s.setMoney x).zone z = s.zone z := rfl
@[simp] theorem State.zone_setJournal (s : State) (x : Journal) (z : Zone) : (s.setJournal x).zone z = s.zone z := rfl
@[simp] theorem State.zone_setSched (s : State) (x : Scheduler) (z : Zone) : (s.setSched x).zone z = s.zone z := rfl
@[simp] theorem State.zone_setArbiter (s : State) (x : Vector GroupRec 4) (z : Zone) : (s.setArbiter x).zone z = s.zone z := rfl
@[simp] theorem State.zone_setSites (s : State) (x : Sites) (z : Zone) : (s.setSites x).zone z = s.zone z := rfl
@[simp] theorem State.zone_setReturns (s : State) (x : List Report) (z : Zone) : (s.setReturns x).zone z = s.zone z := rfl
@[simp] theorem State.zone_setMeter (s : State) (x : Meter) (z : Zone) : (s.setMeter x).zone z = s.zone z := rfl
@[simp] theorem State.zone_setLine (s : State) (m : LineId) (x : Line) (z : Zone) : (s.setLine m x).zone z = s.zone z := rfl
@[simp] theorem State.zone_setLink (s : State) (y : Zone) (x : LinkRec) (z : Zone) : (s.setLink y x).zone z = s.zone z := rfl
@[simp] theorem State.zone_setGroup (s : State) (h : GroupId) (x : GroupRec) (z : Zone) : (s.setGroup h x).zone z = s.zone z := rfl
@[simp] theorem State.zone_setZoneMeter (s : State) (y : Zone) (x : ZoneMeter) (z : Zone) : (s.setZoneMeter y x).zone z = s.zone z := rfl
@[simp] theorem State.zone_modifyPage (s : State) (k : Nat) (f : Page → Page) (z : Zone) : (s.modifyPage k f).zone z = s.zone z := rfl
@[simp] theorem State.zone_modifyAccount (s : State) (k : Nat) (f : Account → Account) (z : Zone) : (s.modifyAccount k f).zone z = s.zone z := rfl
@[simp] theorem State.zone_modifyPlan (s : State) (k : Nat) (f : Plan → Plan) (z : Zone) : (s.modifyPlan k f).zone z = s.zone z := rfl
@[simp] theorem State.zone_setMailbox (s : State) (k : Nat) (l : List Nat) (z : Zone) : (s.setMailbox k l).zone z = s.zone z := rfl
@[simp] theorem zone_taken (s : State) (rest : List Order) (z : Zone) : (taken s rest).zone z = s.zone z := rfl
@[simp] theorem zone_raise (s : State) (x : Notice) (z : Zone) : (raise s x).zone z = s.zone z := by simp [State.zone]
@[simp] theorem zone_pump (s : State) (z : Zone) : (pump s).zone z = s.zone z := by simp [State.zone]
@[simp] theorem zone_elapse (s : State) (ms : Nat) (z : Zone) : (elapse s ms).zone z = s.zone z := rfl

/-! ## State.line -/

@[simp] theorem State.line_setPending (s : State) (x : List Instr) (n : LineId) : (s.setPending x).line n = s.line n := rfl
@[simp] theorem State.line_setSys (s : State) (x : Sys) (n : LineId) : (s.setSys x).line n = s.line n := rfl
@[simp] theorem State.line_setPort (s : State) (x : Port) (n : LineId) : (s.setPort x).line n = s.line n := rfl
@[simp] theorem State.line_setDir (s : State) (x : Directory) (n : LineId) : (s.setDir x).line n = s.line n := rfl
@[simp] theorem State.line_setStore (s : State) (x : PageStore) (n : LineId) : (s.setStore x).line n = s.line n := rfl
@[simp] theorem State.line_setMoney (s : State) (x : AccountUnit) (n : LineId) : (s.setMoney x).line n = s.line n := rfl
@[simp] theorem State.line_setJournal (s : State) (x : Journal) (n : LineId) : (s.setJournal x).line n = s.line n := rfl
@[simp] theorem State.line_setSched (s : State) (x : Scheduler) (n : LineId) : (s.setSched x).line n = s.line n := rfl
@[simp] theorem State.line_setDispatch (s : State) (x : DispatchUnit) (n : LineId) : (s.setDispatch x).line n = s.line n := rfl
@[simp] theorem State.line_setArbiter (s : State) (x : Vector GroupRec 4) (n : LineId) : (s.setArbiter x).line n = s.line n := rfl
@[simp] theorem State.line_setSites (s : State) (x : Sites) (n : LineId) : (s.setSites x).line n = s.line n := rfl
@[simp] theorem State.line_setReturns (s : State) (x : List Report) (n : LineId) : (s.setReturns x).line n = s.line n := rfl
@[simp] theorem State.line_setMeter (s : State) (x : Meter) (n : LineId) : (s.setMeter x).line n = s.line n := rfl
@[simp] theorem State.line_setZone (s : State) (y : Zone) (x : ZoneRec) (n : LineId) : (s.setZone y x).line n = s.line n := rfl
@[simp] theorem State.line_setLink (s : State) (y : Zone) (x : LinkRec) (n : LineId) : (s.setLink y x).line n = s.line n := rfl
@[simp] theorem State.line_setGroup (s : State) (h : GroupId) (x : GroupRec) (n : LineId) : (s.setGroup h x).line n = s.line n := rfl
@[simp] theorem State.line_setZoneMeter (s : State) (y : Zone) (x : ZoneMeter) (n : LineId) : (s.setZoneMeter y x).line n = s.line n := rfl
@[simp] theorem State.line_modifyPage (s : State) (k : Nat) (f : Page → Page) (n : LineId) : (s.modifyPage k f).line n = s.line n := rfl
@[simp] theorem State.line_modifyAccount (s : State) (k : Nat) (f : Account → Account) (n : LineId) : (s.modifyAccount k f).line n = s.line n := rfl
@[simp] theorem State.line_modifyPlan (s : State) (k : Nat) (f : Plan → Plan) (n : LineId) : (s.modifyPlan k f).line n = s.line n := rfl
@[simp] theorem State.line_setMailbox (s : State) (k : Nat) (l : List Nat) (n : LineId) : (s.setMailbox k l).line n = s.line n := rfl
@[simp] theorem line_taken (s : State) (rest : List Order) (n : LineId) : (taken s rest).line n = s.line n := rfl
@[simp] theorem line_raise (s : State) (x : Notice) (n : LineId) : (raise s x).line n = s.line n := by simp [State.line]
@[simp] theorem line_pump (s : State) (n : LineId) : (pump s).line n = s.line n := by simp [State.line]
@[simp] theorem line_elapse (s : State) (ms : Nat) (n : LineId) : (elapse s ms).line n = s.line n := rfl

/-! ## State.link -/

@[simp] theorem State.link_setPending (s : State) (x : List Instr) (z : Zone) : (s.setPending x).link z = s.link z := rfl
@[simp] theorem State.link_setSys (s : State) (x : Sys) (z : Zone) : (s.setSys x).link z = s.link z := rfl
@[simp] theorem State.link_setPort (s : State) (x : Port) (z : Zone) : (s.setPort x).link z = s.link z := rfl
@[simp] theorem State.link_setIntake (s : State) (x : Intake) (z : Zone) : (s.setIntake x).link z = s.link z := rfl
@[simp] theorem State.link_setDir (s : State) (x : Directory) (z : Zone) : (s.setDir x).link z = s.link z := rfl
@[simp] theorem State.link_setStore (s : State) (x : PageStore) (z : Zone) : (s.setStore x).link z = s.link z := rfl
@[simp] theorem State.link_setMoney (s : State) (x : AccountUnit) (z : Zone) : (s.setMoney x).link z = s.link z := rfl
@[simp] theorem State.link_setJournal (s : State) (x : Journal) (z : Zone) : (s.setJournal x).link z = s.link z := rfl
@[simp] theorem State.link_setSched (s : State) (x : Scheduler) (z : Zone) : (s.setSched x).link z = s.link z := rfl
@[simp] theorem State.link_setDispatch (s : State) (x : DispatchUnit) (z : Zone) : (s.setDispatch x).link z = s.link z := rfl
@[simp] theorem State.link_setArbiter (s : State) (x : Vector GroupRec 4) (z : Zone) : (s.setArbiter x).link z = s.link z := rfl
@[simp] theorem State.link_setReturns (s : State) (x : List Report) (z : Zone) : (s.setReturns x).link z = s.link z := rfl
@[simp] theorem State.link_setMeter (s : State) (x : Meter) (z : Zone) : (s.setMeter x).link z = s.link z := rfl
@[simp] theorem State.link_setZone (s : State) (y : Zone) (x : ZoneRec) (z : Zone) : (s.setZone y x).link z = s.link z := rfl
@[simp] theorem State.link_setLine (s : State) (m : LineId) (x : Line) (z : Zone) : (s.setLine m x).link z = s.link z := rfl
@[simp] theorem State.link_setGroup (s : State) (h : GroupId) (x : GroupRec) (z : Zone) : (s.setGroup h x).link z = s.link z := rfl
@[simp] theorem State.link_setZoneMeter (s : State) (y : Zone) (x : ZoneMeter) (z : Zone) : (s.setZoneMeter y x).link z = s.link z := rfl
@[simp] theorem State.link_modifyPage (s : State) (k : Nat) (f : Page → Page) (z : Zone) : (s.modifyPage k f).link z = s.link z := rfl
@[simp] theorem State.link_modifyAccount (s : State) (k : Nat) (f : Account → Account) (z : Zone) : (s.modifyAccount k f).link z = s.link z := rfl
@[simp] theorem State.link_modifyPlan (s : State) (k : Nat) (f : Plan → Plan) (z : Zone) : (s.modifyPlan k f).link z = s.link z := rfl
@[simp] theorem State.link_setMailbox (s : State) (k : Nat) (l : List Nat) (z : Zone) : (s.setMailbox k l).link z = s.link z := rfl
@[simp] theorem link_taken (s : State) (rest : List Order) (z : Zone) : (taken s rest).link z = s.link z := rfl
@[simp] theorem link_raise (s : State) (x : Notice) (z : Zone) : (raise s x).link z = s.link z := by simp [State.link]
@[simp] theorem link_pump (s : State) (z : Zone) : (pump s).link z = s.link z := by simp [State.link]
@[simp] theorem link_elapse (s : State) (ms : Nat) (z : Zone) : (elapse s ms).link z = s.link z := rfl

/-! ## State.group -/

@[simp] theorem State.group_setPending (s : State) (x : List Instr) (g : GroupId) : (s.setPending x).group g = s.group g := rfl
@[simp] theorem State.group_setSys (s : State) (x : Sys) (g : GroupId) : (s.setSys x).group g = s.group g := rfl
@[simp] theorem State.group_setPort (s : State) (x : Port) (g : GroupId) : (s.setPort x).group g = s.group g := rfl
@[simp] theorem State.group_setIntake (s : State) (x : Intake) (g : GroupId) : (s.setIntake x).group g = s.group g := rfl
@[simp] theorem State.group_setDir (s : State) (x : Directory) (g : GroupId) : (s.setDir x).group g = s.group g := rfl
@[simp] theorem State.group_setStore (s : State) (x : PageStore) (g : GroupId) : (s.setStore x).group g = s.group g := rfl
@[simp] theorem State.group_setMoney (s : State) (x : AccountUnit) (g : GroupId) : (s.setMoney x).group g = s.group g := rfl
@[simp] theorem State.group_setJournal (s : State) (x : Journal) (g : GroupId) : (s.setJournal x).group g = s.group g := rfl
@[simp] theorem State.group_setSched (s : State) (x : Scheduler) (g : GroupId) : (s.setSched x).group g = s.group g := rfl
@[simp] theorem State.group_setDispatch (s : State) (x : DispatchUnit) (g : GroupId) : (s.setDispatch x).group g = s.group g := rfl
@[simp] theorem State.group_setSites (s : State) (x : Sites) (g : GroupId) : (s.setSites x).group g = s.group g := rfl
@[simp] theorem State.group_setReturns (s : State) (x : List Report) (g : GroupId) : (s.setReturns x).group g = s.group g := rfl
@[simp] theorem State.group_setMeter (s : State) (x : Meter) (g : GroupId) : (s.setMeter x).group g = s.group g := rfl
@[simp] theorem State.group_setZone (s : State) (y : Zone) (x : ZoneRec) (g : GroupId) : (s.setZone y x).group g = s.group g := rfl
@[simp] theorem State.group_setLine (s : State) (m : LineId) (x : Line) (g : GroupId) : (s.setLine m x).group g = s.group g := rfl
@[simp] theorem State.group_setLink (s : State) (y : Zone) (x : LinkRec) (g : GroupId) : (s.setLink y x).group g = s.group g := rfl
@[simp] theorem State.group_setZoneMeter (s : State) (y : Zone) (x : ZoneMeter) (g : GroupId) : (s.setZoneMeter y x).group g = s.group g := rfl
@[simp] theorem State.group_modifyPage (s : State) (k : Nat) (f : Page → Page) (g : GroupId) : (s.modifyPage k f).group g = s.group g := rfl
@[simp] theorem State.group_modifyAccount (s : State) (k : Nat) (f : Account → Account) (g : GroupId) : (s.modifyAccount k f).group g = s.group g := rfl
@[simp] theorem State.group_modifyPlan (s : State) (k : Nat) (f : Plan → Plan) (g : GroupId) : (s.modifyPlan k f).group g = s.group g := rfl
@[simp] theorem State.group_setMailbox (s : State) (k : Nat) (l : List Nat) (g : GroupId) : (s.setMailbox k l).group g = s.group g := rfl
@[simp] theorem group_taken (s : State) (rest : List Order) (g : GroupId) : (taken s rest).group g = s.group g := rfl
@[simp] theorem group_raise (s : State) (x : Notice) (g : GroupId) : (raise s x).group g = s.group g := by simp [State.group]
@[simp] theorem group_pump (s : State) (g : GroupId) : (pump s).group g = s.group g := by simp [State.group]
@[simp] theorem group_elapse (s : State) (ms : Nat) (g : GroupId) : (elapse s ms).group g = s.group g := rfl

/-! ## State.zoneMeter -/

@[simp] theorem State.zoneMeter_setPending (s : State) (x : List Instr) (z : Zone) : (s.setPending x).zoneMeter z = s.zoneMeter z := rfl
@[simp] theorem State.zoneMeter_setSys (s : State) (x : Sys) (z : Zone) : (s.setSys x).zoneMeter z = s.zoneMeter z := rfl
@[simp] theorem State.zoneMeter_setPort (s : State) (x : Port) (z : Zone) : (s.setPort x).zoneMeter z = s.zoneMeter z := rfl
@[simp] theorem State.zoneMeter_setIntake (s : State) (x : Intake) (z : Zone) : (s.setIntake x).zoneMeter z = s.zoneMeter z := rfl
@[simp] theorem State.zoneMeter_setDir (s : State) (x : Directory) (z : Zone) : (s.setDir x).zoneMeter z = s.zoneMeter z := rfl
@[simp] theorem State.zoneMeter_setStore (s : State) (x : PageStore) (z : Zone) : (s.setStore x).zoneMeter z = s.zoneMeter z := rfl
@[simp] theorem State.zoneMeter_setMoney (s : State) (x : AccountUnit) (z : Zone) : (s.setMoney x).zoneMeter z = s.zoneMeter z := rfl
@[simp] theorem State.zoneMeter_setJournal (s : State) (x : Journal) (z : Zone) : (s.setJournal x).zoneMeter z = s.zoneMeter z := rfl
@[simp] theorem State.zoneMeter_setSched (s : State) (x : Scheduler) (z : Zone) : (s.setSched x).zoneMeter z = s.zoneMeter z := rfl
@[simp] theorem State.zoneMeter_setDispatch (s : State) (x : DispatchUnit) (z : Zone) : (s.setDispatch x).zoneMeter z = s.zoneMeter z := rfl
@[simp] theorem State.zoneMeter_setArbiter (s : State) (x : Vector GroupRec 4) (z : Zone) : (s.setArbiter x).zoneMeter z = s.zoneMeter z := rfl
@[simp] theorem State.zoneMeter_setSites (s : State) (x : Sites) (z : Zone) : (s.setSites x).zoneMeter z = s.zoneMeter z := rfl
@[simp] theorem State.zoneMeter_setReturns (s : State) (x : List Report) (z : Zone) : (s.setReturns x).zoneMeter z = s.zoneMeter z := rfl
@[simp] theorem State.zoneMeter_setZone (s : State) (y : Zone) (x : ZoneRec) (z : Zone) : (s.setZone y x).zoneMeter z = s.zoneMeter z := rfl
@[simp] theorem State.zoneMeter_setLine (s : State) (m : LineId) (x : Line) (z : Zone) : (s.setLine m x).zoneMeter z = s.zoneMeter z := rfl
@[simp] theorem State.zoneMeter_setLink (s : State) (y : Zone) (x : LinkRec) (z : Zone) : (s.setLink y x).zoneMeter z = s.zoneMeter z := rfl
@[simp] theorem State.zoneMeter_setGroup (s : State) (h : GroupId) (x : GroupRec) (z : Zone) : (s.setGroup h x).zoneMeter z = s.zoneMeter z := rfl
@[simp] theorem State.zoneMeter_modifyPage (s : State) (k : Nat) (f : Page → Page) (z : Zone) : (s.modifyPage k f).zoneMeter z = s.zoneMeter z := rfl
@[simp] theorem State.zoneMeter_modifyAccount (s : State) (k : Nat) (f : Account → Account) (z : Zone) : (s.modifyAccount k f).zoneMeter z = s.zoneMeter z := rfl
@[simp] theorem State.zoneMeter_modifyPlan (s : State) (k : Nat) (f : Plan → Plan) (z : Zone) : (s.modifyPlan k f).zoneMeter z = s.zoneMeter z := rfl
@[simp] theorem State.zoneMeter_setMailbox (s : State) (k : Nat) (l : List Nat) (z : Zone) : (s.setMailbox k l).zoneMeter z = s.zoneMeter z := rfl
@[simp] theorem zoneMeter_taken (s : State) (rest : List Order) (z : Zone) : (taken s rest).zoneMeter z = s.zoneMeter z := rfl
@[simp] theorem zoneMeter_raise (s : State) (x : Notice) (z : Zone) : (raise s x).zoneMeter z = s.zoneMeter z := by simp [State.zoneMeter]
@[simp] theorem zoneMeter_pump (s : State) (z : Zone) : (pump s).zoneMeter z = s.zoneMeter z := by simp [State.zoneMeter]
@[simp] theorem zoneMeter_elapse (s : State) (ms : Nat) (z : Zone) : (elapse s ms).zoneMeter z = s.zoneMeter z := rfl

/-! ## State.page -/

@[simp] theorem State.page_setPending (s : State) (x : List Instr) (r : Nat) : (s.setPending x).page r = s.page r := rfl
@[simp] theorem State.page_setSys (s : State) (x : Sys) (r : Nat) : (s.setSys x).page r = s.page r := rfl
@[simp] theorem State.page_setPort (s : State) (x : Port) (r : Nat) : (s.setPort x).page r = s.page r := rfl
@[simp] theorem State.page_setIntake (s : State) (x : Intake) (r : Nat) : (s.setIntake x).page r = s.page r := rfl
@[simp] theorem State.page_setDir (s : State) (x : Directory) (r : Nat) : (s.setDir x).page r = s.page r := rfl
@[simp] theorem State.page_setMoney (s : State) (x : AccountUnit) (r : Nat) : (s.setMoney x).page r = s.page r := rfl
@[simp] theorem State.page_setJournal (s : State) (x : Journal) (r : Nat) : (s.setJournal x).page r = s.page r := rfl
@[simp] theorem State.page_setSched (s : State) (x : Scheduler) (r : Nat) : (s.setSched x).page r = s.page r := rfl
@[simp] theorem State.page_setDispatch (s : State) (x : DispatchUnit) (r : Nat) : (s.setDispatch x).page r = s.page r := rfl
@[simp] theorem State.page_setArbiter (s : State) (x : Vector GroupRec 4) (r : Nat) : (s.setArbiter x).page r = s.page r := rfl
@[simp] theorem State.page_setSites (s : State) (x : Sites) (r : Nat) : (s.setSites x).page r = s.page r := rfl
@[simp] theorem State.page_setReturns (s : State) (x : List Report) (r : Nat) : (s.setReturns x).page r = s.page r := rfl
@[simp] theorem State.page_setMeter (s : State) (x : Meter) (r : Nat) : (s.setMeter x).page r = s.page r := rfl
@[simp] theorem State.page_setZone (s : State) (y : Zone) (x : ZoneRec) (r : Nat) : (s.setZone y x).page r = s.page r := rfl
@[simp] theorem State.page_setLine (s : State) (m : LineId) (x : Line) (r : Nat) : (s.setLine m x).page r = s.page r := rfl
@[simp] theorem State.page_setLink (s : State) (y : Zone) (x : LinkRec) (r : Nat) : (s.setLink y x).page r = s.page r := rfl
@[simp] theorem State.page_setGroup (s : State) (h : GroupId) (x : GroupRec) (r : Nat) : (s.setGroup h x).page r = s.page r := rfl
@[simp] theorem State.page_setZoneMeter (s : State) (y : Zone) (x : ZoneMeter) (r : Nat) : (s.setZoneMeter y x).page r = s.page r := rfl
@[simp] theorem State.page_modifyAccount (s : State) (k : Nat) (f : Account → Account) (r : Nat) : (s.modifyAccount k f).page r = s.page r := rfl
@[simp] theorem State.page_modifyPlan (s : State) (k : Nat) (f : Plan → Plan) (r : Nat) : (s.modifyPlan k f).page r = s.page r := rfl
@[simp] theorem page_taken (s : State) (rest : List Order) (r : Nat) : (taken s rest).page r = s.page r := rfl
@[simp] theorem page_raise (s : State) (x : Notice) (r : Nat) : (raise s x).page r = s.page r := by simp [State.page]
@[simp] theorem page_pump (s : State) (r : Nat) : (pump s).page r = s.page r := by simp [State.page]
@[simp] theorem page_elapse (s : State) (ms : Nat) (r : Nat) : (elapse s ms).page r = s.page r := rfl

/-! ## State.mailbox -/

@[simp] theorem State.mailbox_setPending (s : State) (x : List Instr) (i : Nat) : (s.setPending x).mailbox i = s.mailbox i := rfl
@[simp] theorem State.mailbox_setSys (s : State) (x : Sys) (i : Nat) : (s.setSys x).mailbox i = s.mailbox i := rfl
@[simp] theorem State.mailbox_setPort (s : State) (x : Port) (i : Nat) : (s.setPort x).mailbox i = s.mailbox i := rfl
@[simp] theorem State.mailbox_setIntake (s : State) (x : Intake) (i : Nat) : (s.setIntake x).mailbox i = s.mailbox i := rfl
@[simp] theorem State.mailbox_setDir (s : State) (x : Directory) (i : Nat) : (s.setDir x).mailbox i = s.mailbox i := rfl
@[simp] theorem State.mailbox_setMoney (s : State) (x : AccountUnit) (i : Nat) : (s.setMoney x).mailbox i = s.mailbox i := rfl
@[simp] theorem State.mailbox_setJournal (s : State) (x : Journal) (i : Nat) : (s.setJournal x).mailbox i = s.mailbox i := rfl
@[simp] theorem State.mailbox_setSched (s : State) (x : Scheduler) (i : Nat) : (s.setSched x).mailbox i = s.mailbox i := rfl
@[simp] theorem State.mailbox_setDispatch (s : State) (x : DispatchUnit) (i : Nat) : (s.setDispatch x).mailbox i = s.mailbox i := rfl
@[simp] theorem State.mailbox_setArbiter (s : State) (x : Vector GroupRec 4) (i : Nat) : (s.setArbiter x).mailbox i = s.mailbox i := rfl
@[simp] theorem State.mailbox_setSites (s : State) (x : Sites) (i : Nat) : (s.setSites x).mailbox i = s.mailbox i := rfl
@[simp] theorem State.mailbox_setReturns (s : State) (x : List Report) (i : Nat) : (s.setReturns x).mailbox i = s.mailbox i := rfl
@[simp] theorem State.mailbox_setMeter (s : State) (x : Meter) (i : Nat) : (s.setMeter x).mailbox i = s.mailbox i := rfl
@[simp] theorem State.mailbox_setZone (s : State) (y : Zone) (x : ZoneRec) (i : Nat) : (s.setZone y x).mailbox i = s.mailbox i := rfl
@[simp] theorem State.mailbox_setLine (s : State) (m : LineId) (x : Line) (i : Nat) : (s.setLine m x).mailbox i = s.mailbox i := rfl
@[simp] theorem State.mailbox_setLink (s : State) (y : Zone) (x : LinkRec) (i : Nat) : (s.setLink y x).mailbox i = s.mailbox i := rfl
@[simp] theorem State.mailbox_setGroup (s : State) (h : GroupId) (x : GroupRec) (i : Nat) : (s.setGroup h x).mailbox i = s.mailbox i := rfl
@[simp] theorem State.mailbox_setZoneMeter (s : State) (y : Zone) (x : ZoneMeter) (i : Nat) : (s.setZoneMeter y x).mailbox i = s.mailbox i := rfl
@[simp] theorem State.mailbox_modifyAccount (s : State) (k : Nat) (f : Account → Account) (i : Nat) : (s.modifyAccount k f).mailbox i = s.mailbox i := rfl
@[simp] theorem State.mailbox_modifyPlan (s : State) (k : Nat) (f : Plan → Plan) (i : Nat) : (s.modifyPlan k f).mailbox i = s.mailbox i := rfl
@[simp] theorem mailbox_taken (s : State) (rest : List Order) (i : Nat) : (taken s rest).mailbox i = s.mailbox i := rfl
@[simp] theorem mailbox_raise (s : State) (x : Notice) (i : Nat) : (raise s x).mailbox i = s.mailbox i := by simp [State.mailbox]
@[simp] theorem mailbox_pump (s : State) (i : Nat) : (pump s).mailbox i = s.mailbox i := by simp [State.mailbox]
@[simp] theorem mailbox_elapse (s : State) (ms : Nat) (i : Nat) : (elapse s ms).mailbox i = s.mailbox i := rfl

/-! ## State.sub -/

@[simp] theorem State.sub_setPending (s : State) (x : List Instr) (i : Nat) : (s.setPending x).sub i = s.sub i := rfl
@[simp] theorem State.sub_setSys (s : State) (x : Sys) (i : Nat) : (s.setSys x).sub i = s.sub i := rfl
@[simp] theorem State.sub_setPort (s : State) (x : Port) (i : Nat) : (s.setPort x).sub i = s.sub i := rfl
@[simp] theorem State.sub_setIntake (s : State) (x : Intake) (i : Nat) : (s.setIntake x).sub i = s.sub i := rfl
@[simp] theorem State.sub_setStore (s : State) (x : PageStore) (i : Nat) : (s.setStore x).sub i = s.sub i := rfl
@[simp] theorem State.sub_setMoney (s : State) (x : AccountUnit) (i : Nat) : (s.setMoney x).sub i = s.sub i := rfl
@[simp] theorem State.sub_setJournal (s : State) (x : Journal) (i : Nat) : (s.setJournal x).sub i = s.sub i := rfl
@[simp] theorem State.sub_setSched (s : State) (x : Scheduler) (i : Nat) : (s.setSched x).sub i = s.sub i := rfl
@[simp] theorem State.sub_setDispatch (s : State) (x : DispatchUnit) (i : Nat) : (s.setDispatch x).sub i = s.sub i := rfl
@[simp] theorem State.sub_setArbiter (s : State) (x : Vector GroupRec 4) (i : Nat) : (s.setArbiter x).sub i = s.sub i := rfl
@[simp] theorem State.sub_setSites (s : State) (x : Sites) (i : Nat) : (s.setSites x).sub i = s.sub i := rfl
@[simp] theorem State.sub_setReturns (s : State) (x : List Report) (i : Nat) : (s.setReturns x).sub i = s.sub i := rfl
@[simp] theorem State.sub_setMeter (s : State) (x : Meter) (i : Nat) : (s.setMeter x).sub i = s.sub i := rfl
@[simp] theorem State.sub_setZone (s : State) (y : Zone) (x : ZoneRec) (i : Nat) : (s.setZone y x).sub i = s.sub i := rfl
@[simp] theorem State.sub_setLine (s : State) (m : LineId) (x : Line) (i : Nat) : (s.setLine m x).sub i = s.sub i := rfl
@[simp] theorem State.sub_setLink (s : State) (y : Zone) (x : LinkRec) (i : Nat) : (s.setLink y x).sub i = s.sub i := rfl
@[simp] theorem State.sub_setGroup (s : State) (h : GroupId) (x : GroupRec) (i : Nat) : (s.setGroup h x).sub i = s.sub i := rfl
@[simp] theorem State.sub_setZoneMeter (s : State) (y : Zone) (x : ZoneMeter) (i : Nat) : (s.setZoneMeter y x).sub i = s.sub i := rfl
@[simp] theorem State.sub_modifyPage (s : State) (k : Nat) (f : Page → Page) (i : Nat) : (s.modifyPage k f).sub i = s.sub i := rfl
@[simp] theorem State.sub_modifyAccount (s : State) (k : Nat) (f : Account → Account) (i : Nat) : (s.modifyAccount k f).sub i = s.sub i := rfl
@[simp] theorem State.sub_modifyPlan (s : State) (k : Nat) (f : Plan → Plan) (i : Nat) : (s.modifyPlan k f).sub i = s.sub i := rfl
@[simp] theorem State.sub_setMailbox (s : State) (k : Nat) (l : List Nat) (i : Nat) : (s.setMailbox k l).sub i = s.sub i := rfl
@[simp] theorem sub_taken (s : State) (rest : List Order) (i : Nat) : (taken s rest).sub i = s.sub i := rfl
@[simp] theorem sub_raise (s : State) (x : Notice) (i : Nat) : (raise s x).sub i = s.sub i := by simp [State.sub]
@[simp] theorem sub_pump (s : State) (i : Nat) : (pump s).sub i = s.sub i := by simp [State.sub]
@[simp] theorem sub_elapse (s : State) (ms : Nat) (i : Nat) : (elapse s ms).sub i = s.sub i := rfl

/-! ## State.account -/

@[simp] theorem State.account_setPending (s : State) (x : List Instr) (a : Nat) : (s.setPending x).account a = s.account a := rfl
@[simp] theorem State.account_setSys (s : State) (x : Sys) (a : Nat) : (s.setSys x).account a = s.account a := rfl
@[simp] theorem State.account_setPort (s : State) (x : Port) (a : Nat) : (s.setPort x).account a = s.account a := rfl
@[simp] theorem State.account_setIntake (s : State) (x : Intake) (a : Nat) : (s.setIntake x).account a = s.account a := rfl
@[simp] theorem State.account_setDir (s : State) (x : Directory) (a : Nat) : (s.setDir x).account a = s.account a := rfl
@[simp] theorem State.account_setStore (s : State) (x : PageStore) (a : Nat) : (s.setStore x).account a = s.account a := rfl
@[simp] theorem State.account_setJournal (s : State) (x : Journal) (a : Nat) : (s.setJournal x).account a = s.account a := rfl
@[simp] theorem State.account_setSched (s : State) (x : Scheduler) (a : Nat) : (s.setSched x).account a = s.account a := rfl
@[simp] theorem State.account_setDispatch (s : State) (x : DispatchUnit) (a : Nat) : (s.setDispatch x).account a = s.account a := rfl
@[simp] theorem State.account_setArbiter (s : State) (x : Vector GroupRec 4) (a : Nat) : (s.setArbiter x).account a = s.account a := rfl
@[simp] theorem State.account_setSites (s : State) (x : Sites) (a : Nat) : (s.setSites x).account a = s.account a := rfl
@[simp] theorem State.account_setReturns (s : State) (x : List Report) (a : Nat) : (s.setReturns x).account a = s.account a := rfl
@[simp] theorem State.account_setMeter (s : State) (x : Meter) (a : Nat) : (s.setMeter x).account a = s.account a := rfl
@[simp] theorem State.account_setZone (s : State) (y : Zone) (x : ZoneRec) (a : Nat) : (s.setZone y x).account a = s.account a := rfl
@[simp] theorem State.account_setLine (s : State) (m : LineId) (x : Line) (a : Nat) : (s.setLine m x).account a = s.account a := rfl
@[simp] theorem State.account_setLink (s : State) (y : Zone) (x : LinkRec) (a : Nat) : (s.setLink y x).account a = s.account a := rfl
@[simp] theorem State.account_setGroup (s : State) (h : GroupId) (x : GroupRec) (a : Nat) : (s.setGroup h x).account a = s.account a := rfl
@[simp] theorem State.account_setZoneMeter (s : State) (y : Zone) (x : ZoneMeter) (a : Nat) : (s.setZoneMeter y x).account a = s.account a := rfl
@[simp] theorem State.account_modifyPage (s : State) (k : Nat) (f : Page → Page) (a : Nat) : (s.modifyPage k f).account a = s.account a := rfl
@[simp] theorem State.account_setMailbox (s : State) (k : Nat) (l : List Nat) (a : Nat) : (s.setMailbox k l).account a = s.account a := rfl
@[simp] theorem account_taken (s : State) (rest : List Order) (a : Nat) : (taken s rest).account a = s.account a := rfl
@[simp] theorem account_raise (s : State) (x : Notice) (a : Nat) : (raise s x).account a = s.account a := by simp [State.account]
@[simp] theorem account_pump (s : State) (a : Nat) : (pump s).account a = s.account a := by simp [State.account]
@[simp] theorem account_elapse (s : State) (ms : Nat) (a : Nat) : (elapse s ms).account a = s.account a := rfl

/-! ## State.plan -/

@[simp] theorem State.plan_setPending (s : State) (x : List Instr) (p : Nat) : (s.setPending x).plan p = s.plan p := rfl
@[simp] theorem State.plan_setSys (s : State) (x : Sys) (p : Nat) : (s.setSys x).plan p = s.plan p := rfl
@[simp] theorem State.plan_setPort (s : State) (x : Port) (p : Nat) : (s.setPort x).plan p = s.plan p := rfl
@[simp] theorem State.plan_setIntake (s : State) (x : Intake) (p : Nat) : (s.setIntake x).plan p = s.plan p := rfl
@[simp] theorem State.plan_setDir (s : State) (x : Directory) (p : Nat) : (s.setDir x).plan p = s.plan p := rfl
@[simp] theorem State.plan_setStore (s : State) (x : PageStore) (p : Nat) : (s.setStore x).plan p = s.plan p := rfl
@[simp] theorem State.plan_setJournal (s : State) (x : Journal) (p : Nat) : (s.setJournal x).plan p = s.plan p := rfl
@[simp] theorem State.plan_setSched (s : State) (x : Scheduler) (p : Nat) : (s.setSched x).plan p = s.plan p := rfl
@[simp] theorem State.plan_setDispatch (s : State) (x : DispatchUnit) (p : Nat) : (s.setDispatch x).plan p = s.plan p := rfl
@[simp] theorem State.plan_setArbiter (s : State) (x : Vector GroupRec 4) (p : Nat) : (s.setArbiter x).plan p = s.plan p := rfl
@[simp] theorem State.plan_setSites (s : State) (x : Sites) (p : Nat) : (s.setSites x).plan p = s.plan p := rfl
@[simp] theorem State.plan_setReturns (s : State) (x : List Report) (p : Nat) : (s.setReturns x).plan p = s.plan p := rfl
@[simp] theorem State.plan_setMeter (s : State) (x : Meter) (p : Nat) : (s.setMeter x).plan p = s.plan p := rfl
@[simp] theorem State.plan_setZone (s : State) (y : Zone) (x : ZoneRec) (p : Nat) : (s.setZone y x).plan p = s.plan p := rfl
@[simp] theorem State.plan_setLine (s : State) (m : LineId) (x : Line) (p : Nat) : (s.setLine m x).plan p = s.plan p := rfl
@[simp] theorem State.plan_setLink (s : State) (y : Zone) (x : LinkRec) (p : Nat) : (s.setLink y x).plan p = s.plan p := rfl
@[simp] theorem State.plan_setGroup (s : State) (h : GroupId) (x : GroupRec) (p : Nat) : (s.setGroup h x).plan p = s.plan p := rfl
@[simp] theorem State.plan_setZoneMeter (s : State) (y : Zone) (x : ZoneMeter) (p : Nat) : (s.setZoneMeter y x).plan p = s.plan p := rfl
@[simp] theorem State.plan_modifyPage (s : State) (k : Nat) (f : Page → Page) (p : Nat) : (s.modifyPage k f).plan p = s.plan p := rfl
@[simp] theorem State.plan_setMailbox (s : State) (k : Nat) (l : List Nat) (p : Nat) : (s.setMailbox k l).plan p = s.plan p := rfl
@[simp] theorem plan_taken (s : State) (rest : List Order) (p : Nat) : (taken s rest).plan p = s.plan p := rfl
@[simp] theorem plan_raise (s : State) (x : Notice) (p : Nat) : (raise s x).plan p = s.plan p := by simp [State.plan]
@[simp] theorem plan_pump (s : State) (p : Nat) : (pump s).plan p = s.plan p := by simp [State.plan]
@[simp] theorem plan_elapse (s : State) (ms : Nat) (p : Nat) : (elapse s ms).plan p = s.plan p := rfl

/-! ## State.params -/

@[simp] theorem State.params_setPending (s : State) (x : List Instr) (c : PageClass) : (s.setPending x).params c = s.params c := rfl
@[simp] theorem State.params_setSys (s : State) (x : Sys) (c : PageClass) : (s.setSys x).params c = s.params c := rfl
@[simp] theorem State.params_setPort (s : State) (x : Port) (c : PageClass) : (s.setPort x).params c = s.params c := rfl
@[simp] theorem State.params_setIntake (s : State) (x : Intake) (c : PageClass) : (s.setIntake x).params c = s.params c := rfl
@[simp] theorem State.params_setDir (s : State) (x : Directory) (c : PageClass) : (s.setDir x).params c = s.params c := rfl
@[simp] theorem State.params_setStore (s : State) (x : PageStore) (c : PageClass) : (s.setStore x).params c = s.params c := rfl
@[simp] theorem State.params_setMoney (s : State) (x : AccountUnit) (c : PageClass) : (s.setMoney x).params c = s.params c := rfl
@[simp] theorem State.params_setJournal (s : State) (x : Journal) (c : PageClass) : (s.setJournal x).params c = s.params c := rfl
@[simp] theorem State.params_setDispatch (s : State) (x : DispatchUnit) (c : PageClass) : (s.setDispatch x).params c = s.params c := rfl
@[simp] theorem State.params_setArbiter (s : State) (x : Vector GroupRec 4) (c : PageClass) : (s.setArbiter x).params c = s.params c := rfl
@[simp] theorem State.params_setSites (s : State) (x : Sites) (c : PageClass) : (s.setSites x).params c = s.params c := rfl
@[simp] theorem State.params_setReturns (s : State) (x : List Report) (c : PageClass) : (s.setReturns x).params c = s.params c := rfl
@[simp] theorem State.params_setMeter (s : State) (x : Meter) (c : PageClass) : (s.setMeter x).params c = s.params c := rfl
@[simp] theorem State.params_setZone (s : State) (y : Zone) (x : ZoneRec) (c : PageClass) : (s.setZone y x).params c = s.params c := rfl
@[simp] theorem State.params_setLine (s : State) (m : LineId) (x : Line) (c : PageClass) : (s.setLine m x).params c = s.params c := rfl
@[simp] theorem State.params_setLink (s : State) (y : Zone) (x : LinkRec) (c : PageClass) : (s.setLink y x).params c = s.params c := rfl
@[simp] theorem State.params_setGroup (s : State) (h : GroupId) (x : GroupRec) (c : PageClass) : (s.setGroup h x).params c = s.params c := rfl
@[simp] theorem State.params_setZoneMeter (s : State) (y : Zone) (x : ZoneMeter) (c : PageClass) : (s.setZoneMeter y x).params c = s.params c := rfl
@[simp] theorem State.params_modifyPage (s : State) (k : Nat) (f : Page → Page) (c : PageClass) : (s.modifyPage k f).params c = s.params c := rfl
@[simp] theorem State.params_modifyAccount (s : State) (k : Nat) (f : Account → Account) (c : PageClass) : (s.modifyAccount k f).params c = s.params c := rfl
@[simp] theorem State.params_modifyPlan (s : State) (k : Nat) (f : Plan → Plan) (c : PageClass) : (s.modifyPlan k f).params c = s.params c := rfl
@[simp] theorem State.params_setMailbox (s : State) (k : Nat) (l : List Nat) (c : PageClass) : (s.setMailbox k l).params c = s.params c := rfl
@[simp] theorem params_taken (s : State) (rest : List Order) (c : PageClass) : (taken s rest).params c = s.params c := rfl
@[simp] theorem params_raise (s : State) (x : Notice) (c : PageClass) : (raise s x).params c = s.params c := by simp [State.params]
@[simp] theorem params_pump (s : State) (c : PageClass) : (pump s).params c = s.params c := by simp [State.params]
@[simp] theorem params_elapse (s : State) (ms : Nat) (c : PageClass) : (elapse s ms).params c = s.params c := rfl

/-! ## State.liveTickets -/

@[simp] theorem State.liveTickets_setPending (s : State) (x : List Instr) : (s.setPending x).liveTickets = s.liveTickets := rfl
@[simp] theorem State.liveTickets_setSys (s : State) (x : Sys) : (s.setSys x).liveTickets = s.liveTickets := rfl
@[simp] theorem State.liveTickets_setPort (s : State) (x : Port) : (s.setPort x).liveTickets = s.liveTickets := rfl
@[simp] theorem State.liveTickets_setIntake (s : State) (x : Intake) : (s.setIntake x).liveTickets = s.liveTickets := rfl
@[simp] theorem State.liveTickets_setDir (s : State) (x : Directory) : (s.setDir x).liveTickets = s.liveTickets := rfl
@[simp] theorem State.liveTickets_setStore (s : State) (x : PageStore) : (s.setStore x).liveTickets = s.liveTickets := rfl
@[simp] theorem State.liveTickets_setMoney (s : State) (x : AccountUnit) : (s.setMoney x).liveTickets = s.liveTickets := rfl
@[simp] theorem State.liveTickets_setJournal (s : State) (x : Journal) : (s.setJournal x).liveTickets = s.liveTickets := rfl
@[simp] theorem State.liveTickets_setSched (s : State) (x : Scheduler) : (s.setSched x).liveTickets = s.liveTickets := rfl
@[simp] theorem State.liveTickets_setArbiter (s : State) (x : Vector GroupRec 4) : (s.setArbiter x).liveTickets = s.liveTickets := rfl
@[simp] theorem State.liveTickets_setSites (s : State) (x : Sites) : (s.setSites x).liveTickets = s.liveTickets := rfl
@[simp] theorem State.liveTickets_setReturns (s : State) (x : List Report) : (s.setReturns x).liveTickets = s.liveTickets := rfl
@[simp] theorem State.liveTickets_setMeter (s : State) (x : Meter) : (s.setMeter x).liveTickets = s.liveTickets := rfl
@[simp] theorem State.liveTickets_setLine (s : State) (m : LineId) (x : Line) : (s.setLine m x).liveTickets = s.liveTickets := rfl
@[simp] theorem State.liveTickets_setLink (s : State) (y : Zone) (x : LinkRec) : (s.setLink y x).liveTickets = s.liveTickets := rfl
@[simp] theorem State.liveTickets_setGroup (s : State) (h : GroupId) (x : GroupRec) : (s.setGroup h x).liveTickets = s.liveTickets := rfl
@[simp] theorem State.liveTickets_setZoneMeter (s : State) (y : Zone) (x : ZoneMeter) : (s.setZoneMeter y x).liveTickets = s.liveTickets := rfl
@[simp] theorem State.liveTickets_modifyPage (s : State) (k : Nat) (f : Page → Page) : (s.modifyPage k f).liveTickets = s.liveTickets := rfl
@[simp] theorem State.liveTickets_modifyAccount (s : State) (k : Nat) (f : Account → Account) : (s.modifyAccount k f).liveTickets = s.liveTickets := rfl
@[simp] theorem State.liveTickets_modifyPlan (s : State) (k : Nat) (f : Plan → Plan) : (s.modifyPlan k f).liveTickets = s.liveTickets := rfl
@[simp] theorem State.liveTickets_setMailbox (s : State) (k : Nat) (l : List Nat) : (s.setMailbox k l).liveTickets = s.liveTickets := rfl
@[simp] theorem liveTickets_taken (s : State) (rest : List Order) : (taken s rest).liveTickets = s.liveTickets := rfl
@[simp] theorem liveTickets_raise (s : State) (x : Notice) : (raise s x).liveTickets = s.liveTickets := by simp [State.liveTickets]
@[simp] theorem liveTickets_pump (s : State) : (pump s).liveTickets = s.liveTickets := by simp [State.liveTickets]
@[simp] theorem liveTickets_elapse (s : State) (ms : Nat) : (elapse s ms).liveTickets = s.liveTickets := rfl

/-! ## State.now -/

@[simp] theorem State.now_setPending (s : State) (x : List Instr) : (s.setPending x).now = s.now := rfl
@[simp] theorem State.now_setPort (s : State) (x : Port) : (s.setPort x).now = s.now := rfl
@[simp] theorem State.now_setIntake (s : State) (x : Intake) : (s.setIntake x).now = s.now := rfl
@[simp] theorem State.now_setDir (s : State) (x : Directory) : (s.setDir x).now = s.now := rfl
@[simp] theorem State.now_setStore (s : State) (x : PageStore) : (s.setStore x).now = s.now := rfl
@[simp] theorem State.now_setMoney (s : State) (x : AccountUnit) : (s.setMoney x).now = s.now := rfl
@[simp] theorem State.now_setJournal (s : State) (x : Journal) : (s.setJournal x).now = s.now := rfl
@[simp] theorem State.now_setSched (s : State) (x : Scheduler) : (s.setSched x).now = s.now := rfl
@[simp] theorem State.now_setDispatch (s : State) (x : DispatchUnit) : (s.setDispatch x).now = s.now := rfl
@[simp] theorem State.now_setArbiter (s : State) (x : Vector GroupRec 4) : (s.setArbiter x).now = s.now := rfl
@[simp] theorem State.now_setSites (s : State) (x : Sites) : (s.setSites x).now = s.now := rfl
@[simp] theorem State.now_setReturns (s : State) (x : List Report) : (s.setReturns x).now = s.now := rfl
@[simp] theorem State.now_setMeter (s : State) (x : Meter) : (s.setMeter x).now = s.now := rfl
@[simp] theorem State.now_setZone (s : State) (y : Zone) (x : ZoneRec) : (s.setZone y x).now = s.now := rfl
@[simp] theorem State.now_setLine (s : State) (m : LineId) (x : Line) : (s.setLine m x).now = s.now := rfl
@[simp] theorem State.now_setLink (s : State) (y : Zone) (x : LinkRec) : (s.setLink y x).now = s.now := rfl
@[simp] theorem State.now_setGroup (s : State) (h : GroupId) (x : GroupRec) : (s.setGroup h x).now = s.now := rfl
@[simp] theorem State.now_setZoneMeter (s : State) (y : Zone) (x : ZoneMeter) : (s.setZoneMeter y x).now = s.now := rfl
@[simp] theorem State.now_modifyPage (s : State) (k : Nat) (f : Page → Page) : (s.modifyPage k f).now = s.now := rfl
@[simp] theorem State.now_modifyAccount (s : State) (k : Nat) (f : Account → Account) : (s.modifyAccount k f).now = s.now := rfl
@[simp] theorem State.now_modifyPlan (s : State) (k : Nat) (f : Plan → Plan) : (s.modifyPlan k f).now = s.now := rfl
@[simp] theorem State.now_setMailbox (s : State) (k : Nat) (l : List Nat) : (s.setMailbox k l).now = s.now := rfl
@[simp] theorem now_taken (s : State) (rest : List Order) : (taken s rest).now = s.now := rfl
@[simp] theorem now_raise (s : State) (x : Notice) : (raise s x).now = s.now := by simp [State.now]
@[simp] theorem now_pump (s : State) : (pump s).now = s.now := by simp [State.now]

/-! ## State.running -/

@[simp] theorem State.running_setPending (s : State) (x : List Instr) : (s.setPending x).running = s.running := rfl
@[simp] theorem State.running_setSys (s : State) (x : Sys) : (s.setSys x).running = s.running := rfl
@[simp] theorem State.running_setIntake (s : State) (x : Intake) : (s.setIntake x).running = s.running := rfl
@[simp] theorem State.running_setDir (s : State) (x : Directory) : (s.setDir x).running = s.running := rfl
@[simp] theorem State.running_setStore (s : State) (x : PageStore) : (s.setStore x).running = s.running := rfl
@[simp] theorem State.running_setMoney (s : State) (x : AccountUnit) : (s.setMoney x).running = s.running := rfl
@[simp] theorem State.running_setJournal (s : State) (x : Journal) : (s.setJournal x).running = s.running := rfl
@[simp] theorem State.running_setSched (s : State) (x : Scheduler) : (s.setSched x).running = s.running := rfl
@[simp] theorem State.running_setDispatch (s : State) (x : DispatchUnit) : (s.setDispatch x).running = s.running := rfl
@[simp] theorem State.running_setArbiter (s : State) (x : Vector GroupRec 4) : (s.setArbiter x).running = s.running := rfl
@[simp] theorem State.running_setSites (s : State) (x : Sites) : (s.setSites x).running = s.running := rfl
@[simp] theorem State.running_setReturns (s : State) (x : List Report) : (s.setReturns x).running = s.running := rfl
@[simp] theorem State.running_setMeter (s : State) (x : Meter) : (s.setMeter x).running = s.running := rfl
@[simp] theorem State.running_setZone (s : State) (y : Zone) (x : ZoneRec) : (s.setZone y x).running = s.running := rfl
@[simp] theorem State.running_setLine (s : State) (m : LineId) (x : Line) : (s.setLine m x).running = s.running := rfl
@[simp] theorem State.running_setLink (s : State) (y : Zone) (x : LinkRec) : (s.setLink y x).running = s.running := rfl
@[simp] theorem State.running_setGroup (s : State) (h : GroupId) (x : GroupRec) : (s.setGroup h x).running = s.running := rfl
@[simp] theorem State.running_setZoneMeter (s : State) (y : Zone) (x : ZoneMeter) : (s.setZoneMeter y x).running = s.running := rfl
@[simp] theorem State.running_modifyPage (s : State) (k : Nat) (f : Page → Page) : (s.modifyPage k f).running = s.running := rfl
@[simp] theorem State.running_modifyAccount (s : State) (k : Nat) (f : Account → Account) : (s.modifyAccount k f).running = s.running := rfl
@[simp] theorem State.running_modifyPlan (s : State) (k : Nat) (f : Plan → Plan) : (s.modifyPlan k f).running = s.running := rfl
@[simp] theorem State.running_setMailbox (s : State) (k : Nat) (l : List Nat) : (s.setMailbox k l).running = s.running := rfl
@[simp] theorem running_taken (s : State) (rest : List Order) : (taken s rest).running = s.running := rfl
@[simp] theorem running_elapse (s : State) (ms : Nat) : (elapse s ms).running = s.running := rfl

/-! ## An order that has left the queue -/

@[simp] theorem pending_taken (s : State) (rest : List Order) : (taken s rest).pending = s.pending := rfl
@[simp] theorem sys_taken (s : State) (rest : List Order) : (taken s rest).sys = s.sys := rfl
@[simp] theorem port_taken (s : State) (rest : List Order) : (taken s rest).port = { s.port with orders := rest } := rfl
@[simp] theorem intake_taken (s : State) (rest : List Order) : (taken s rest).intake = s.intake := rfl
@[simp] theorem dir_taken (s : State) (rest : List Order) : (taken s rest).dir = s.dir := rfl
@[simp] theorem store_taken (s : State) (rest : List Order) : (taken s rest).store = s.store := rfl
@[simp] theorem money_taken (s : State) (rest : List Order) : (taken s rest).money = s.money := rfl
@[simp] theorem journal_taken (s : State) (rest : List Order) : (taken s rest).journal = s.journal := rfl
@[simp] theorem sched_taken (s : State) (rest : List Order) : (taken s rest).sched = s.sched := rfl
@[simp] theorem dispatch_taken (s : State) (rest : List Order) : (taken s rest).dispatch = s.dispatch := rfl
@[simp] theorem arbiter_taken (s : State) (rest : List Order) : (taken s rest).arbiter = s.arbiter := rfl
@[simp] theorem sites_taken (s : State) (rest : List Order) : (taken s rest).sites = s.sites := rfl
@[simp] theorem returns_taken (s : State) (rest : List Order) : (taken s rest).returns = s.returns := rfl
@[simp] theorem meter_taken (s : State) (rest : List Order) : (taken s rest).meter = s.meter := rfl

end Sys2Proof.Machine
end

