-- ==== Sys2Proof/Laws/Tables.lean ====
section
/-! SUPPORT. Laws/Tables.lean: what sparse tables read after a write, that every write keeps their canonical form, and what the
time-ordered lists hold. -/

namespace Sys2Proof.Machine

/-! ## Reading after writing -/

@[simp] theorem Table.get_nil {α : Type} (k : Nat) : Table.get ([] : Table α) k = none := rfl

@[simp] theorem Table.get_set_same {α : Type} (t : Table α) (k : Nat) (v : α) : Table.get (Table.set t k v) k = some v := by
  induction t with
  | nil => simp [Table.set, Table.get]
  | cons e rest ih =>
    obtain ⟨k', v'⟩ := e
    unfold Table.set
    split
    · simp [Table.get]
    · split
      · simp [Table.get]
      · rename_i h1 h2
        have : ¬ k' = k := fun h => h2 h.symm
        simp [Table.get, this, ih]

theorem Table.get_set_other {α : Type} (t : Table α) {k j : Nat} (v : α) (h : j ≠ k) :
    Table.get (Table.set t k v) j = Table.get t j := by
  have hk : ¬ k = j := fun e => h e.symm
  induction t with
  | nil => simp [Table.set, Table.get, hk]
  | cons e rest ih =>
    obtain ⟨k', v'⟩ := e
    unfold Table.set
    split
    · simp [Table.get, hk]
    · split
      · rename_i h2
        subst h2
        simp [Table.get, hk]
      · simp [Table.get, ih]

theorem Table.erase_cons {α : Type} (k' : Nat) (v' : α) (rest : Table α) (k : Nat) :
    Table.erase ((k', v') :: rest) k = if k' = k then Table.erase rest k else (k', v') :: Table.erase rest k := by
  by_cases h : k' = k <;> simp [Table.erase, h]

@[simp] theorem Table.get_erase_same {α : Type} (t : Table α) (k : Nat) : Table.get (Table.erase t k) k = none := by
  induction t with
  | nil => rfl
  | cons e rest ih =>
    obtain ⟨k', v'⟩ := e
    rw [Table.erase_cons]
    split
    · exact ih
    · rename_i h
      simp [Table.get, h, ih]

theorem Table.get_erase_other {α : Type} (t : Table α) {k j : Nat} (h : j ≠ k) :
    Table.get (Table.erase t k) j = Table.get t j := by
  induction t with
  | nil => rfl
  | cons e rest ih =>
    obtain ⟨k', v'⟩ := e
    rw [Table.erase_cons]
    split
    · rename_i hk
      have hj : ¬ k' = j := fun e => h (e.symm.trans hk)
      simp [Table.get, hj, ih]
    · simp [Table.get, ih]

theorem Table.get_modify_same {α : Type} (t : Table α) (k : Nat) (f : α → α) :
    Table.get (Table.modify t k f) k = (Table.get t k).map f := by
  unfold Table.modify
  cases h : Table.get t k <;> simp [h]

theorem Table.get_modify_other {α : Type} (t : Table α) {k j : Nat} (f : α → α) (h : j ≠ k) :
    Table.get (Table.modify t k f) j = Table.get t j := by
  unfold Table.modify
  cases Table.get t k with
  | none => rfl
  | some v => exact Table.get_set_other t (f v) h

theorem Table.set_set_same {α : Type} (t : Table α) (k : Nat) (v w : α) :
    Table.set (Table.set t k v) k w = Table.set t k w := by
  induction t with
  | nil => simp [Table.set]
  | cons e rest ih =>
    obtain ⟨k', v'⟩ := e
    by_cases lt : k < k'
    · simp [Table.set, lt]
    · by_cases eq : k = k'
      · simp [Table.set, eq]
      · simp [Table.set, lt, eq, ih]

theorem Table.modify_of_get {α : Type} {t : Table α} {k : Nat} {v : α} (f : α → α) (h : Table.get t k = some v) :
    Table.modify t k f = Table.set t k (f v) := by
  unfold Table.modify
  rw [h]

theorem Table.modify_of_none {α : Type} {t : Table α} {k : Nat} (f : α → α) (h : Table.get t k = none) :
    Table.modify t k f = t := by
  unfold Table.modify
  rw [h]

/-! ## The canonical form -/

theorem Table.wf_nil {α : Type} : Table.wf ([] : Table α) := List.Pairwise.nil

theorem Table.keys_set {α : Type} (t : Table α) (k : Nat) (v : α) (j : Nat) :
    j ∈ (Table.set t k v).map Prod.fst ↔ j = k ∨ j ∈ t.map Prod.fst := by
  induction t with
  | nil => simp [Table.set]
  | cons e rest ih =>
    obtain ⟨k', v'⟩ := e
    unfold Table.set
    split
    · simp
    · split
      · rename_i h
        subst h
        simp
      · simp only [List.map_cons, List.mem_cons, ih]
        constructor
        · rintro (h | h | h) <;> simp [h]
        · rintro (h | h | h) <;> simp [h]

theorem Table.wf_set {α : Type} (t : Table α) (k : Nat) (v : α) (h : Table.wf t) : Table.wf (Table.set t k v) := by
  induction t with
  | nil => simp [Table.set, Table.wf]
  | cons e rest ih =>
    obtain ⟨k', v'⟩ := e
    have hc := List.pairwise_cons.mp h
    unfold Table.set
    split
    · rename_i hlt
      refine List.pairwise_cons.mpr ⟨?_, h⟩
      intro j hj
      rcases List.mem_cons.mp hj with e | e
      · subst e; exact hlt
      · exact Nat.lt_trans hlt (hc.1 j e)
    · split
      · rename_i hk
        subst hk
        exact h
      · rename_i hlt hne
        refine List.pairwise_cons.mpr ⟨?_, ih hc.2⟩
        intro j hj
        rcases (Table.keys_set rest k v j).mp hj with e | e
        · have h1 : ¬ k < k' := hlt
          have h2 : ¬ k = k' := hne
          show k' < j
          omega
        · exact hc.1 j e

theorem Table.wf_erase {α : Type} (t : Table α) (k : Nat) (h : Table.wf t) : Table.wf (Table.erase t k) :=
  List.Pairwise.sublist (List.Sublist.map _ List.filter_sublist) h

theorem Table.wf_modify {α : Type} (t : Table α) (k : Nat) (f : α → α) (h : Table.wf t) :
    Table.wf (Table.modify t k f) := by
  unfold Table.modify
  cases Table.get t k with
  | none => exact h
  | some v => exact Table.wf_set t k (f v) h

/-! ## Sizes -/

theorem Table.length_set_le {α : Type} (t : Table α) (k : Nat) (v : α) : (Table.set t k v).length ≤ t.length + 1 := by
  induction t with
  | nil => simp [Table.set]
  | cons e rest ih =>
    obtain ⟨k', v'⟩ := e
    unfold Table.set
    split
    · simp
    · split
      · simp
      · simpa using ih

theorem Table.length_set_of_get {α : Type} (t : Table α) (k : Nat) (v w : α) (wf : Table.wf t) (h : Table.get t k = some w) :
    (Table.set t k v).length = t.length := by
  induction t with
  | nil => cases h
  | cons e rest ih =>
    obtain ⟨k', v'⟩ := e
    have hc := List.pairwise_cons.mp wf
    unfold Table.set
    split
    · rename_i hlt
      have hne : ¬ k' = k := by omega
      simp only [Table.get, hne, if_false] at h
      have hmem : ∀ (l : Table α), Table.get l k = some w → k ∈ l.map Prod.fst := by
        intro l
        induction l with
        | nil => intro h; cases h
        | cons a l ihl =>
          obtain ⟨a1, a2⟩ := a
          intro hl
          by_cases ha : a1 = k
          · simp [ha]
          · simp only [Table.get, ha, if_false] at hl
            exact List.mem_cons_of_mem _ (ihl hl)
      have : k' < k := hc.1 k (hmem rest h)
      omega
    · split
      · simp
      · rename_i hne
        have hne' : ¬ k' = k := fun e => hne e.symm
        simp only [Table.get, hne', if_false] at h
        simp [ih hc.2 h]

theorem Table.length_erase_le {α : Type} (t : Table α) (k : Nat) : (Table.erase t k).length ≤ t.length :=
  List.length_filter_le _ _

theorem Table.length_erase_lt {α : Type} (t : Table α) (k : Nat) (v : α) (h : Table.get t k = some v) :
    (Table.erase t k).length < t.length := by
  induction t with
  | nil => cases h
  | cons e rest ih =>
    obtain ⟨k', v'⟩ := e
    rw [Table.erase_cons]
    split
    · have := Table.length_erase_le rest k
      simp only [List.length_cons]
      omega
    · rename_i hk
      simp only [Table.get, hk, if_false] at h
      have := ih h
      simp only [List.length_cons]
      omega

/-! ## Banks of records -/

@[simp] theorem getElem_bankMap {α β : Type} {n : Nat} (v : Vector α n) (f : Fin n → α → β) (i : Fin n) :
    (bankMap v f)[i] = f i v[i] := by
  simp [bankMap]

/-! ## Time-ordered lists -/

theorem mem_timeInsert (l : List (Nat × Nat)) (t r : Nat) (e : Nat × Nat) :
    e ∈ timeInsert l t r ↔ e = (t, r) ∨ e ∈ l := by
  induction l with
  | nil => simp [timeInsert]
  | cons a rest ih =>
    unfold timeInsert
    split
    · simp
    · simp only [List.mem_cons, ih]
      constructor
      · rintro (h | h | h) <;> simp [h]
      · rintro (h | h | h) <;> simp [h]

/-- Entries in order of their times. -/
abbrev TimeOrdered (l : List (Nat × Nat)) : Prop := l.Pairwise fun a b => a.1 ≤ b.1

theorem timeOrdered_insert (l : List (Nat × Nat)) (t r : Nat) (h : TimeOrdered l) : TimeOrdered (timeInsert l t r) := by
  induction l with
  | nil => simp [timeInsert, TimeOrdered]
  | cons a rest ih =>
    have hc := List.pairwise_cons.mp h
    unfold timeInsert
    split
    · rename_i hlt
      refine List.pairwise_cons.mpr ⟨?_, h⟩
      intro e he
      rcases List.mem_cons.mp he with rfl | he
      · exact Nat.le_of_lt hlt
      · exact Nat.le_trans (Nat.le_of_lt hlt) (hc.1 e he)
    · rename_i hnlt
      refine List.pairwise_cons.mpr ⟨?_, ih hc.2⟩
      intro e he
      rcases (mem_timeInsert rest t r e).mp he with rfl | he
      · exact Nat.le_of_not_lt hnlt
      · exact hc.1 e he

theorem timeOrdered_remove (l : List (Nat × Nat)) (r : Nat) (h : TimeOrdered l) : TimeOrdered (timeRemove l r) :=
  List.Pairwise.sublist List.filter_sublist h

theorem timeOrdered_tail (l : List (Nat × Nat)) (h : TimeOrdered l) : TimeOrdered l.tail :=
  List.Pairwise.sublist (List.tail_sublist l) h

end Sys2Proof.Machine
end

