-- ==== Sys2Proof/Laws/Directory.lean ====
section
/-! SUPPORT. Laws/Directory.lean: what the shared operations of the Subscriber Directory do: the overlap test, resolution, and a
change of memberships counts. -/

namespace Sys2Proof.Machine

/-- The overlap test of BLOCK-DEFINE passes exactly when no other DEFINED entry shares a number or an index (R9). -/
theorem blockConflict_eq_false (d : Directory) (e : Fin 8) (b : NumberBlock) :
    d.blockConflict e b = false ↔
      ∀ (f : Fin 8) (c : NumberBlock), f ≠ e → d.blocks[f] = some c →
        (b.first + b.count ≤ c.first ∨ c.first + c.count ≤ b.first)
          ∧ (b.index + b.count ≤ c.index ∨ c.index + c.count ≤ b.index) := by
  simp only [Directory.blockConflict, List.any_eq_false, List.mem_finRange, forall_const]
  constructor
  · intro hh f c hf hc
    have h1 := hh f
    rw [hc] at h1
    simp [hf, NumberBlock.overlaps] at h1
    omega
  · intro hh f
    by_cases hf : f = e
    · simp [hf]
    · cases hc : d.blocks[f] with
      | none => simp
      | some c =>
        have := hh f c hf hc
        simp [NumberBlock.overlaps]
        omega

/-- With one covering entry at most, resolution uses any entry that covers the number (R5, R6). -/
theorem blockOf_of_covers {s : State} (law : BlocksLaw s) {n : Nat} {e : Fin 8} {b : NumberBlock}
    (he : s.dir.blocks[e] = some b) (h1 : b.first ≤ n) (h2 : n < b.first + b.count) :
    s.dir.blockOf n = some (e, b) := by
  unfold Directory.blockOf
  cases hf : (List.finRange 8).findSome? _ with
  | none =>
    rw [List.findSome?_eq_none_iff] at hf
    have := hf e (List.mem_finRange e)
    rw [he] at this
    simp [NumberBlock.covers, h1, h2] at this
  | some x =>
    obtain ⟨f, -, hx⟩ := List.exists_of_findSome?_eq_some hf
    cases hc : s.dir.blocks[f] with
    | none => rw [hc] at hx; simp at hx
    | some c =>
      rw [hc] at hx
      simp [NumberBlock.covers] at hx
      obtain ⟨⟨h3, h4⟩, rfl⟩ := hx
      by_cases hfe : f = e
      · subst hfe
        rw [he] at hc
        cases hc
        rfl
      · have := law.2 f e c b hfe hc he
        omega

/-- A number resolves through no entry exactly when none covers it (R6). -/
theorem blockOf_eq_none {d : Directory} {n : Nat} :
    d.blockOf n = none ↔ ∀ (e : Fin 8) (b : NumberBlock), d.blocks[e] = some b → n < b.first ∨ b.first + b.count ≤ n := by
  unfold Directory.blockOf
  rw [List.findSome?_eq_none_iff]
  constructor
  · intro h e b he
    have := h e (List.mem_finRange e)
    rw [he] at this
    simp [NumberBlock.covers] at this
    omega
  · intro h e _
    cases he : d.blocks[e] with
    | none => rfl
    | some b =>
      have := h e b he
      simp [NumberBlock.covers]
      omega

/-- An entry that resolution uses covers the number (R6). -/
theorem covers_of_blockOf {d : Directory} {n : Nat} {e : Fin 8} {b : NumberBlock} (h : d.blockOf n = some (e, b)) :
    d.blocks[e] = some b ∧ b.first ≤ n ∧ n < b.first + b.count := by
  unfold Directory.blockOf at h
  obtain ⟨f, -, hx⟩ := List.exists_of_findSome?_eq_some h
  cases hc : d.blocks[f] with
  | none => rw [hc] at hx; simp at hx
  | some c =>
    rw [hc] at hx
    simp [NumberBlock.covers] at hx
    obtain ⟨⟨h3, h4⟩, rfl, rfl⟩ := hx
    exact ⟨hc, h3, h4⟩

/-! ## Memberships -/

/-- A record with its memberships count changed; a GROUP has none. -/
def Subscriber.withMemberships (f : Nat → Nat) (u : Subscriber) : Subscriber :=
  match u.body with
  | .pager p => { u with body := .pager { p with memberships := f p.memberships } }
  | .group _ => u

theorem adjustMemberships_nil (subs : Table Subscriber) (f : Nat → Nat) : adjustMemberships subs [] f = subs := rfl

theorem adjustMemberships_cons (subs : Table Subscriber) (m : Nat) (l : List Nat) (f : Nat → Nat) :
    adjustMemberships subs (m :: l) f = adjustMemberships (Table.modify subs m (Subscriber.withMemberships f)) l f := rfl

theorem get_adjustMemberships_other (subs : Table Subscriber) (l : List Nat) (f : Nat → Nat) {j : Nat} (h : j ∉ l) :
    Table.get (adjustMemberships subs l f) j = Table.get subs j := by
  induction l generalizing subs with
  | nil => rfl
  | cons m l ih =>
    rw [List.mem_cons, not_or] at h
    rw [adjustMemberships_cons, ih _ h.2, Table.get_modify_other _ _ h.1]

theorem get_adjustMemberships_mem (subs : Table Subscriber) {l : List Nat} (f : Nat → Nat) {j : Nat} (hl : l.Nodup)
    (h : j ∈ l) : Table.get (adjustMemberships subs l f) j = (Table.get subs j).map (Subscriber.withMemberships f) := by
  induction l generalizing subs with
  | nil => exact absurd h List.not_mem_nil
  | cons m l ih =>
    rw [List.nodup_cons] at hl
    rw [adjustMemberships_cons]
    by_cases hj : j = m
    · subst hj
      rw [get_adjustMemberships_other _ _ _ hl.1, Table.get_modify_same]
    · have hm : j ∈ l := (List.mem_cons.1 h).resolve_left hj
      rw [ih _ hl.2 hm, Table.get_modify_other _ _ hj]

theorem wf_adjustMemberships (subs : Table Subscriber) (l : List Nat) (f : Nat → Nat) (h : Table.wf subs) :
    Table.wf (adjustMemberships subs l f) := by
  induction l generalizing subs with
  | nil => exact h
  | cons m l ih =>
    rw [adjustMemberships_cons]
    exact ih _ (Table.wf_modify _ _ _ h)

end Sys2Proof.Machine
end

