-- ==== Sys2Proof/Laws/Kept.lean ====
section
/-! SUPPORT. Laws/Kept.lean: what the shared operations can touch, said once. Everything that dispatching, settling, retrying and
the site links do is made of writes to nine blocks, announcements and notices; so whatever those writes keep, each operation
keeps. A proof about what a command leaves alone cites one lemma here in place of unfolding the operation. -/

namespace Sys2Proof.Machine

/-- A property that the writes of the shared operations keep. -/
structure Kept (P : State → Prop) : Prop where
  store : ∀ s x, P s → P (s.setStore x)
  sched : ∀ s x, P s → P (s.setSched x)
  money : ∀ s x, P s → P (s.setMoney x)
  journal : ∀ s x, P s → P (s.setJournal x)
  dispatch : ∀ s x, P s → P (s.setDispatch x)
  arbiter : ∀ s x, P s → P (s.setArbiter x)
  sites : ∀ s x, P s → P (s.setSites x)
  meter : ∀ s x, P s → P (s.setMeter x)
  announce : ∀ s, P s → P (announce s)
  raise : ∀ s n, P s → P (raise s n)

variable {P : State → Prop}

/-! ## Named parts -/

theorem Kept.setZone (k : Kept P) {s : State} (z : Zone) (x : ZoneRec) (h : P s) : P (s.setZone z x) := k.dispatch _ _ h
theorem Kept.setLink (k : Kept P) {s : State} (z : Zone) (x : LinkRec) (h : P s) : P (s.setLink z x) := k.sites _ _ h
theorem Kept.setGroup (k : Kept P) {s : State} (g : GroupId) (x : GroupRec) (h : P s) : P (s.setGroup g x) :=
  k.arbiter _ _ h
theorem Kept.setZoneMeter (k : Kept P) {s : State} (z : Zone) (x : ZoneMeter) (h : P s) : P (s.setZoneMeter z x) :=
  k.meter _ _ h
theorem Kept.modifyPage (k : Kept P) {s : State} (r : Nat) (f : Page → Page) (h : P s) : P (s.modifyPage r f) :=
  k.store _ _ h
theorem Kept.modifyAccount (k : Kept P) {s : State} (a : Nat) (f : Account → Account) (h : P s) :
    P (s.modifyAccount a f) := k.money _ _ h
theorem Kept.setMailbox (k : Kept P) {s : State} (i : Nat) (l : List Nat) (h : P s) : P (s.setMailbox i l) :=
  k.store _ _ h

/-- A fold of an operation that keeps a property keeps it. -/
theorem keep_foldl {α : Type} {f : State → α → State} (hf : ∀ s a, P s → P (f s a)) (l : List α) {s : State} (h : P s) :
    P (l.foldl f s) := by
  induction l generalizing s with
  | nil => exact h
  | cons a rest ih => exact ih (hf s a h)

/-! ## Ops -/

theorem Kept.evalAlarms (k : Kept P) {s : State} (h : P s) : P (evalAlarms s) := k.sites _ _ h

theorem Kept.evalJournalHigh (k : Kept P) {s : State} (h : P s) : P (evalJournalHigh s) := by
  unfold Machine.evalJournalHigh
  dsimp only
  split
  · exact h
  · exact k.evalAlarms (k.raise _ _ (k.journal _ _ h))

theorem Kept.appendRecord (k : Kept P) {s : State} (a : Nat) (b : JournalBody) (h : P s) : P (appendRecord s a b) :=
  k.evalJournalHigh (k.journal _ _ h)

theorem Kept.checkLowBalance (k : Kept P) {s : State} (a : Nat) (h : P s) : P (checkLowBalance s a) := by
  unfold Machine.checkLowBalance
  repeat' split
  · exact h
  · exact h
  · exact k.raise _ _ (k.modifyAccount _ _ h)

theorem Kept.reserve (k : Kept P) {s : State} (a e : Nat) (h : P s) : P (reserve s a e) := k.modifyAccount _ _ h

/-! ## Links -/

theorem Kept.beginResync (k : Kept P) {s : State} (z : Zone) (h : P s) : P (beginResync s z) := by
  unfold Machine.beginResync
  dsimp only
  split
  · exact h
  · exact k.setLink _ _ h

theorem Kept.sendBatch (k : Kept P) {s : State} (z : Zone) (e : List BatchEntry) (h : P s) : P (sendBatch s z e) := by
  unfold Machine.sendBatch
  dsimp only
  split
  · exact h
  · exact k.setLink _ _ (k.setZone _ _ h)

theorem Kept.linkHandover (k : Kept P) {s : State} (z : Zone) (e : List BatchEntry) (h : P s) :
    P (linkHandover s z e) := by
  unfold Machine.linkHandover
  dsimp only
  split
  · exact k.sendBatch _ _ h
  · exact k.beginResync _ (k.setLink _ _ h)

theorem Kept.linkAbandon (k : Kept P) {s : State} (z : Zone) (h : P s) : P (linkAbandon s z) := by
  unfold Machine.linkAbandon
  dsimp only
  split
  · exact h
  · exact k.setLink _ _ h
  · exact k.beginResync _ (k.setLink _ _ h)
  · exact k.setLink _ _ h

theorem Kept.latchChanged (k : Kept P) {s : State} (z : Zone) (f : FaultKind) (h : P s) : P (latchChanged s z f) := by
  unfold Machine.latchChanged
  dsimp only
  split
  · exact k.evalAlarms h
  · exact k.evalAlarms (k.raise _ _ h)

theorem Kept.setPresent (k : Kept P) {s : State} (z : Zone) (f : FaultKind) (v : Bool) (h : P s) :
    P (setPresent s z f v) := by
  unfold Machine.setPresent
  dsimp only
  split
  · exact k.latchChanged _ _ (k.setLink _ _ h)
  · exact k.setLink _ _ h

theorem Kept.loseLink (k : Kept P) {s : State} (z : Zone) (h : P s) : P (loseLink s z) :=
  k.setPresent _ _ _ (k.setLink _ _ h)

/-! ## Batches, requests, grants, tickets -/

theorem Kept.addRequest (k : Kept P) {s : State} (z : Zone) (h : P s) : P (addRequest s z) := k.setGroup _ _ h
theorem Kept.withdrawRequest (k : Kept P) {s : State} (z : Zone) (h : P s) : P (withdrawRequest s z) := k.setGroup _ _ h
theorem Kept.endGrant (k : Kept P) {s : State} (z : Zone) (h : P s) : P (endGrant s z) := k.setGroup _ _ h

theorem Kept.compose (k : Kept P) {s : State} (z : Zone) (b : MakingBatch) (h : P s) : P (compose s z b) := by
  unfold Machine.compose
  dsimp only
  split
  · exact k.addRequest _ (k.setZone _ _ h)
  · exact k.setZone _ _ h

theorem Kept.fillCore (k : Kept P) {s : State} (z : Zone) (h : P s) : P (fillCore s z) := by
  unfold Machine.fillCore
  dsimp only
  repeat' split
  · exact h
  · exact k.compose _ _ h
  · exact k.compose _ _ h
  · exact h

theorem Kept.handover (k : Kept P) {s : State} (z : Zone) (h : P s) : P (handover s z) := by
  unfold Machine.handover
  dsimp only
  split
  · exact h
  · exact k.linkHandover _ _ (k.setZone _ _ h)

theorem Kept.grant (k : Kept P) {s : State} (g : GroupId) (z : Zone) (h : P s) : P (grant s g z) :=
  k.fillCore _ (k.handover _ (k.setGroup _ _ h))

theorem Kept.tryGrant (k : Kept P) {s : State} (g : GroupId) (h : P s) : P (tryGrant s g) := by
  unfold Machine.tryGrant
  repeat' split
  · exact k.grant _ _ h
  · exact h
  · exact h

theorem Kept.fill (k : Kept P) {s : State} (z : Zone) (h : P s) : P (fill s z) := k.tryGrant _ (k.fillCore _ h)

theorem Kept.placeTicket (k : Kept P) {s : State} (t : Ticket) (z : Zone) (h : P s) : P (placeTicket s t z).1 := by
  unfold Machine.placeTicket
  split
  · exact k.fill _ (k.setZone _ _ h)
  · exact h

theorem Kept.placeTickets (k : Kept P) {s : State} (t : Ticket) (zones : List Zone) (h : P s) :
    P (placeTickets s t zones).1 := by
  unfold Machine.placeTickets
  suffices ∀ (l : List Zone) (acc : State × Nat), P acc.1 →
      P (l.foldl (fun (acc : State × Nat) z =>
        ((Machine.placeTicket acc.1 t z).1, acc.2 + (Machine.placeTicket acc.1 t z).2)) acc).1 from this zones (s, 0) h
  intro l
  induction l with
  | nil => exact fun _ h => h
  | cons z rest ih => exact fun acc h => ih _ (k.placeTicket t z h)

theorem Kept.giveUpZone (k : Kept P) {s : State} (r : Nat) (z : Zone) (h : P s) : P (giveUpZone s r z) := by
  unfold Machine.giveUpZone
  dsimp only
  split
  · exact k.setZone _ _ h
  · split
    · exact k.setZone _ _ h
    · split
      · refine k.fill _ ?_
        split
        · exact k.withdrawRequest _ (k.setZone _ _ h)
        · exact k.setZone _ _ h
      · exact k.fill _ (k.setZone _ _ h)

theorem Kept.giveUpTickets (k : Kept P) {s : State} (r : Nat) (h : P s) : P (giveUpTickets s r) :=
  keep_foldl (fun _ z h => k.giveUpZone r z h) _ h

theorem Kept.meterSlots (k : Kept P) {s : State} (z : Zone) (n : Nat) (h : P s) : P (meterSlots s z n) := by
  unfold Machine.meterSlots
  dsimp only
  split
  · exact k.setZoneMeter _ _ h
  · exact h

/-! ## Outcomes and moves of a page -/

theorem Kept.settle (k : Kept P) {s : State} (r : Nat) (p : Page) (o : PageOutcome) (z : Option Zone) (h : P s) :
    P (settle s r p o z) := by
  have h2 := k.appendRecord p.account (outcomeRecord r p o z)
    (k.modifyAccount p.account (fun x => x.settle o (p.units o) p.estimate) h)
  have h3 := k.checkLowBalance p.account h2
  unfold Machine.settle
  dsimp only
  split <;> split
  all_goals first
    | exact k.raise _ _ (k.announce _ (k.store _ _ h3))
    | exact k.raise _ _ (k.announce _ (k.store _ _ h2))
    | exact k.announce _ (k.store _ _ h3)
    | exact k.announce _ (k.store _ _ h2)

theorem Kept.leaveLists (k : Kept P) {s : State} (r : Nat) (p : Page) (h : P s) : P (leaveLists s r p) := by
  unfold Machine.leaveLists
  dsimp only
  split
  · exact k.setMailbox _ _ (k.dispatch _ _ (k.sched _ _ h))
  · exact k.dispatch _ _ (k.sched _ _ h)

theorem Kept.reachOutcome (k : Kept P) {s : State} (r : Nat) (p : Page) (o : PageOutcome) (z : Option Zone) (h : P s) :
    P (reachOutcome s r p o z) := k.settle _ _ _ _ (k.leaveLists _ _ (k.giveUpTickets _ h))

theorem Kept.retryAt (k : Kept P) {s : State} (r due : Nat) (h : P s) : P (retryAt s r due) :=
  k.sched _ _ (k.modifyPage _ _ h)

theorem Kept.retryIn (k : Kept P) {s : State} (r seconds : Nat) (h : P s) : P (retryIn s r seconds) := k.retryAt _ _ h

theorem Kept.awaitAck (k : Kept P) {s : State} (r seconds : Nat) (h : P s) : P (awaitAck s r seconds) :=
  k.sched _ _ (k.modifyPage _ _ h)

theorem Kept.twoWayEnd (k : Kept P) {s : State} (r : Nat) (p : Page) (h : P s) : P (twoWayEnd s r p) := by
  unfold Machine.twoWayEnd
  split
  · exact k.awaitAck _ _ h
  · exact k.retryIn _ _ h

theorem Kept.oneWayEnd (k : Kept P) {s : State} (r : Nat) (p : Page) (h : P s) : P (oneWayEnd s r p) := by
  unfold Machine.oneWayEnd
  dsimp only
  split
  · split
    · exact k.reachOutcome _ _ _ _ (k.modifyPage _ _ h)
    · exact k.retryIn _ _ (k.modifyPage _ _ h)
  · exact k.retryIn _ _ h

theorem Kept.attemptEnd (k : Kept P) {s : State} (r : Nat) (p : Page) (h : P s) : P (attemptEnd s r p) := by
  unfold Machine.attemptEnd
  split
  · exact k.twoWayEnd _ _ h
  · exact k.oneWayEnd _ _ h

theorem Kept.reportTicket (k : Kept P) {s : State} (r : Nat) (aired : Bool) (h : P s) : P (reportTicket s r aired) := by
  unfold Machine.reportTicket
  dsimp only
  split
  · exact h
  · split
    · split
      · exact k.attemptEnd _ _ (k.modifyPage _ _ h)
      · exact k.modifyPage _ _ h
    · exact h

theorem Kept.reportTickets (k : Kept P) {s : State} (l : List Ticket) (aired : Bool) (h : P s) :
    P (reportTickets s l aired) := by
  refine keep_foldl (fun s t h => ?_) l h
  split
  · exact h
  · exact k.reportTicket _ _ h

theorem Kept.enterTicketWait (k : Kept P) {s : State} (r : Nat) (c : PageClass) (h : P s) : P (enterTicketWait s r c) :=
  k.dispatch _ _ h

theorem Kept.afterPlacement (k : Kept P) {s : State} (r : Nat) (p : Page) (n : Nat) (h : P s) :
    P (afterPlacement s r p n) := by
  unfold Machine.afterPlacement
  split
  · exact k.enterTicketWait _ _ (k.modifyPage _ _ h)
  · exact k.modifyPage _ _ h

theorem Kept.attemptStart (k : Kept P) {s : State} (r : Nat) (test : Bool) (h : P s) : P (attemptStart s r test) := by
  unfold Machine.attemptStart
  dsimp only
  repeat' split
  · exact h
  · exact h
  · exact k.retryIn _ _ (k.modifyPage _ _ h)
  · exact k.retryIn _ _ (k.modifyPage _ _ h)
  · exact k.afterPlacement _ _ _ (k.placeTickets _ _ (k.modifyPage _ _ h))

theorem Kept.serveTicketWait (k : Kept P) (l : List Nat) {s : State} (h : P s) : P (serveTicketWait l s) := by
  induction l generalizing s with
  | nil => exact h
  | cons r rest ih =>
    unfold Machine.serveTicketWait
    split
    · exact ih (k.attemptStart _ _ (k.dispatch _ _ h))
    · exact h

/-! ## Zone moves -/

theorem Kept.finishBatch (k : Kept P) {s : State} (z : Zone) (b : SiteBatch) (aired : Bool) (h : P s) :
    P (finishBatch s z b aired) := by
  unfold Machine.finishBatch
  dsimp only
  split
  · exact k.endGrant _ (k.meterSlots _ _ (k.reportTickets _ _ (k.setZone _ _ h)))
  · exact k.endGrant _ (k.reportTickets _ _ (k.setZone _ _ h))

theorem Kept.abandonBatch (k : Kept P) {s : State} (z : Zone) (h : P s) : P (abandonBatch s z) := by
  unfold Machine.abandonBatch
  split
  · exact h
  · exact k.linkAbandon _ (k.finishBatch _ _ _ h)

theorem Kept.withdrawZone (k : Kept P) {s : State} (z : Zone) (h : P s) : P (withdrawZone s z) := by
  unfold Machine.withdrawZone
  dsimp only
  refine k.reportTickets _ _ ?_
  repeat' split
  · exact k.withdrawRequest _ (k.setZone _ _ h)
  · exact k.setZone _ _ h
  · exact k.setZone _ _ h

theorem Kept.setZoneState (k : Kept P) {s : State} (z : Zone) (st : ZoneState) (h : P s) : P (setZoneState s z st) :=
  k.setZone _ _ h

theorem Kept.zoneNotice (k : Kept P) {s : State} (z : Zone) (b a : ZoneState) (c : ZoneCause) (h : P s) :
    P (zoneNotice s z b a c) := k.raise _ _ h

theorem Kept.drainNotices (k : Kept P) {s : State} (z : Zone) (r : DrainResult) (c : Nat × Nat × Nat) (h : P s) :
    P (drainNotices s z r c) := k.raise _ _ (k.zoneNotice _ _ _ _ h)

theorem Kept.stopDrain (k : Kept P) {s : State} (z : Zone) (h : P s) : P (stopDrain s z) := k.setZone _ _ h

theorem Kept.breakDrain (k : Kept P) {s : State} (z : Zone) (r : DrainResult) (h : P s) : P (breakDrain s z r) :=
  k.drainNotices _ _ _ (k.abandonBatch _ (k.stopDrain _ h))

theorem Kept.completeDrain (k : Kept P) {s : State} (z : Zone) (c : Nat × Nat × Nat) (h : P s) :
    P (completeDrain s z c) := k.drainNotices _ _ _ (k.stopDrain _ h)

theorem Kept.endBatch (k : Kept P) {s : State} (z : Zone) (h : P s) : P (endBatch s z) := by
  unfold Machine.endBatch
  dsimp only
  split
  · exact h
  · split
    · exact k.completeDrain _ _ (k.finishBatch _ _ _ h)
    · exact k.finishBatch _ _ _ h

theorem Kept.startSettleTimer (k : Kept P) {s : State} (z : Zone) (h : P s) : P (startSettleTimer s z) := by
  unfold Machine.startSettleTimer
  split
  · exact k.setLink _ _ h
  · exact h

theorem Kept.enterSettling (k : Kept P) {s : State} (z : Zone) (h : P s) : P (enterSettling s z) :=
  k.setPresent _ _ _ (k.startSettleTimer _ h)

theorem Kept.leaveSettling (k : Kept P) {s : State} (z : Zone) (h : P s) : P (leaveSettling s z) :=
  k.setPresent _ _ _ (k.setLink _ _ h)

theorem Kept.faultZone (k : Kept P) {s : State} (z : Zone) (before : ZoneState) (h : P s) : P (faultZone s z before) := by
  have h2 := k.zoneNotice z before .faulted .takeOut (k.abandonBatch z (k.withdrawZone z (k.setZoneState z .faulted h)))
  unfold Machine.faultZone
  dsimp only
  split
  · exact k.leaveSettling _ h2
  · exact h2

theorem Kept.takeOutPresent (k : Kept P) {s : State} (z : Zone) (h : P s) : P (takeOutPresent s z) := by
  unfold Machine.takeOutPresent
  split
  · exact k.faultZone _ _ h
  · exact k.faultZone _ _ h
  · exact k.breakDrain _ _ h
  · exact h

theorem Kept.takeOutClear (k : Kept P) {s : State} (z : Zone) (h : P s) : P (takeOutClear s z) := by
  unfold Machine.takeOutClear
  split
  · exact k.enterSettling _ (k.zoneNotice _ _ _ _ (k.setZoneState _ _ h))
  · exact h

theorem Kept.evalTakeOut (k : Kept P) {s : State} (z : Zone) (before : Bool) (h : P s) : P (evalTakeOut s z before) := by
  unfold Machine.evalTakeOut
  dsimp only
  split
  · exact k.takeOutPresent _ h
  · split
    · exact k.takeOutClear _ h
    · exact h

theorem Kept.becomePresent (k : Kept P) {s : State} (z : Zone) (f : FaultKind) (h : P s) : P (becomePresent s z f) :=
  k.evalTakeOut _ _ (k.setPresent _ _ _ h)

theorem Kept.linkLost (k : Kept P) {s : State} (z : Zone) (h : P s) : P (linkLost s z) :=
  k.evalTakeOut _ _ (k.loseLink _ h)

theorem Kept.settleOut (k : Kept P) {s : State} (z : Zone) (h : P s) : P (settleOut s z) :=
  k.evalTakeOut _ _ (k.leaveSettling _ h)

theorem Kept.drainZone (k : Kept P) {s : State} (z : Zone) (before : ZoneState) (h : P s) : P (drainZone s z before) := by
  have h2 (r : ZoneRec) := k.zoneNotice z before .draining .order (k.withdrawZone z (k.setZone z r h))
  unfold Machine.drainZone
  dsimp only
  split
  · split
    · exact k.settleOut _ (k.completeDrain _ _ (h2 _))
    · exact k.settleOut _ (h2 _)
  · split
    · exact k.completeDrain _ _ (h2 _)
    · exact h2 _

/-! ## The stages of a STATUS, but for the return reports -/

theorem Kept.stageSilence (k : Kept P) {s : State} (z : Zone) (h : P s) : P (stageSilence s z) := k.setLink _ _ h

theorem Kept.completeResync (k : Kept P) {s : State} (z : Zone) (h : P s) : P (completeResync s z) := by
  unfold Machine.completeResync
  dsimp only
  split
  · exact k.sendBatch _ _ (k.setPresent _ _ _ (k.setLink _ _ h))
  · exact k.setPresent _ _ _ (k.setLink _ _ h)

theorem Kept.stageResync (k : Kept P) {s : State} (z : Zone) (x : Status) (h : P s) : P (stageResync s z x) := by
  unfold Machine.stageResync
  dsimp only
  split
  · exact k.evalTakeOut _ _ (k.completeResync _ h)
  · exact h

theorem Kept.takeBatch (k : Kept P) {s : State} (z : Zone) (h : P s) : P (takeBatch s z) :=
  k.setLink _ _ (k.setZone _ _ h)

theorem Kept.endOfCarrier (k : Kept P) {s : State} (z : Zone) (h : P s) : P (endOfCarrier s z) :=
  k.endBatch _ (k.setLink _ _ h)

theorem Kept.testEnd (k : Kept P) {s : State} (z : Zone) (x : Status) (h : P s) : P (testEnd s z x) := by
  unfold Machine.testEnd
  split
  · exact k.endOfCarrier _ h
  · exact h

theorem Kept.stageToggles (k : Kept P) {s : State} (z : Zone) (x : Status) (h : P s) : P (stageToggles s z x) := by
  unfold Machine.stageToggles
  dsimp only
  repeat' split
  · exact h
  · exact k.testEnd _ _ (k.takeBatch _ h)
  · exact h
  · exact k.testEnd _ _ h
  · exact h
  · exact k.beginResync _ h
  · exact h

theorem Kept.noBatchCarrier (k : Kept P) {s : State} (z : Zone) (on : Bool) (h : P s) : P (noBatchCarrier s z on) := by
  unfold Machine.noBatchCarrier
  dsimp only
  repeat' split
  · exact k.setLink _ _ h
  · exact h
  · exact k.setLink _ _ h

theorem Kept.stageCarrier (k : Kept P) {s : State} (z : Zone) (x : Status) (h : P s) : P (stageCarrier s z x) := by
  unfold Machine.stageCarrier
  dsimp only
  split <;> split
  · exact h
  · exact k.noBatchCarrier _ _ h
  · exact k.evalTakeOut _ _ (k.setPresent _ _ _ h)
  · exact k.evalTakeOut _ _ (k.setPresent _ _ _ (k.noBatchCarrier _ _ h))

theorem Kept.stageConditions (k : Kept P) {s : State} (z : Zone) (x : Status) (h : P s) : P (stageConditions s z x) :=
  k.evalTakeOut _ _ (k.setPresent _ _ _ (k.setPresent _ _ _ (k.setPresent _ _ _ h)))

theorem Kept.stageLast (k : Kept P) {s : State} (z : Zone) (x : Status) (h : P s) : P (stageLast s z x) := k.setLink _ _ h

/-- A STATUS keeps what its acceptance of return reports keeps. -/
theorem Kept.handleStatus (k : Kept P) (hr : ∀ s z x, P s → P (stageReports s z x)) {s : State} (z : Zone) (x : Status)
    (h : P s) : P (handleStatus s z x) :=
  k.stageLast _ _ (hr _ _ _ (k.stageConditions _ _ (k.stageCarrier _ _ (k.stageToggles _ _ (k.stageResync _ _
    (k.stageSilence _ h))))))

theorem Kept.discardSiteFrame (k : Kept P) {s : State} (z : Zone) (h : P s) : P (discardSiteFrame s z) := k.setLink _ _ h

theorem Kept.acceptSiteFrame (k : Kept P) (hr : ∀ s z x, P s → P (stageReports s z x)) {s : State} (z : Zone)
    (got : List Byte) (h : P s) : P (acceptSiteFrame s z got) := by
  unfold Machine.acceptSiteFrame
  dsimp only
  repeat' split
  · exact k.handleStatus hr _ _ (k.setLink _ _ h)
  · exact k.discardSiteFrame _ h
  · exact k.discardSiteFrame _ h

theorem Kept.siteByte (k : Kept P) (hr : ∀ s z x, P s → P (stageReports s z x)) {s : State} (z : Zone) (b : Byte)
    (h : P s) : P (siteByte s z b) := by
  unfold Machine.siteByte
  dsimp only
  repeat' split
  · exact k.setLink _ _ h
  · exact h
  · exact k.discardSiteFrame _ h
  · exact k.acceptSiteFrame hr _ _ h
  · exact k.setLink _ _ h

theorem Kept.siteBytes (k : Kept P) (hr : ∀ s z x, P s → P (stageReports s z x)) {s : State} (z : Zone) (l : List Byte)
    (h : P s) : P (siteBytes s z l) := by
  unfold Machine.siteBytes
  split
  · exact keep_foldl (fun _ b h => k.siteByte hr z b h) l h
  · exact h

/-! ## Admission -/

theorem Kept.createPage (k : Kept P) {s : State} (q : Request) (a : Admitted) (i : Nat) (h : P s) :
    P (createPage s q a i).1 := k.reserve _ _ (k.store _ _ h)

theorem Kept.createPages (k : Kept P) (q : Request) (a : Admitted) (l : List Nat) {s : State} (h : P s) :
    P (createPages q a l s).1 := by
  induction l generalizing s with
  | nil => exact h
  | cons i rest ih => exact ih (k.createPage q a i h)

theorem Kept.startPage (k : Kept P) {s : State} (r : Nat) (h : P s) : P (startPage s r) := by
  unfold Machine.startPage
  split
  · exact h
  · exact k.attemptStart _ _ (k.sched _ _ h)

theorem Kept.requestAdmission (k : Kept P) {s t : State} {q : Request} {refs : List Nat} (h : P s)
    (e : requestAdmission s q = .ok (t, refs)) : P t := by
  unfold Machine.requestAdmission at e
  split at e
  · cases e
  · have e' := (Except.ok.inj e)
    have e1 := congrArg Prod.fst e'
    dsimp only at e1
    rw [← e1]
    exact keep_foldl (fun _ r h => k.startPage r h) _ (k.createPages q _ _ h)

/-! ## Page events, meters -/

theorem Kept.holdPage (k : Kept P) {s : State} (r : Nat) (p : Page) (h : P s) : P (holdPage s r p) :=
  k.setMailbox _ _ (k.modifyPage _ _ h)

theorem Kept.ackMissed (k : Kept P) {s : State} (r : Nat) (p : Page) (h : P s) : P (ackMissed s r p) := by
  unfold Machine.ackMissed
  dsimp only
  split
  · exact k.retryIn _ _ (k.modifyPage _ _ h)
  · split
    · exact k.holdPage _ _ h
    · exact k.reachOutcome _ _ _ _ h

theorem Kept.deliver (k : Kept P) {s : State} (r : Nat) (p : Page) (c : Option Nat) (z : Zone) (h : P s) :
    P (deliver s r p c z) := by
  unfold Machine.deliver
  dsimp only
  split
  · exact k.raise _ _ (k.reachOutcome _ _ _ _ h)
  · exact k.reachOutcome _ _ _ _ h

theorem Kept.handleAck (k : Kept P) {s : State} (air r : Nat) (c : Option Nat) (z : Zone) (h : P s) :
    P (handleAck s air r c z) := by
  unfold Machine.handleAck
  repeat' split
  · exact k.raise _ _ h
  · exact k.deliver _ _ _ _ h
  · exact k.raise _ _ h

theorem Kept.releaseMailbox (k : Kept P) {s : State} (i : Nat) (h : P s) : P (releaseMailbox s i) :=
  keep_foldl (fun _ r h => k.attemptStart r false (k.modifyPage r _ h)) _ (k.setMailbox _ _ h)

theorem Kept.writeCongested (k : Kept P) {s : State} (z : Zone) (c : Bool) (h : P s) : P (writeCongested s z c) := by
  unfold Machine.writeCongested
  dsimp only
  split
  · exact h
  · exact k.raise _ _ (k.setZoneMeter _ _ h)

theorem Kept.evalCongested (k : Kept P) {s : State} (z : Zone) (h : P s) : P (evalCongested s z) := k.writeCongested _ _ h

theorem Kept.zoneIntervalEnd (k : Kept P) {s : State} (z : Zone) (h : P s) : P (zoneIntervalEnd s z) :=
  k.evalCongested _ (k.setZoneMeter _ _ h)

theorem Kept.takeIntervalEnd (k : Kept P) {s : State} (h : P s) : P (takeIntervalEnd s) := by
  unfold Machine.takeIntervalEnd
  split
  · exact h
  · exact k.zoneIntervalEnd _ (k.meter _ _ h)

theorem Kept.applyMeterConfig (k : Kept P) {s : State} (h : P s) : P (applyMeterConfig s) := by
  unfold Machine.applyMeterConfig
  split
  · exact keep_foldl (fun _ z h => k.writeCongested z false h) _ (k.meter _ _ (k.meter _ _ h))
  · split
    · exact keep_foldl (fun _ z h => k.evalCongested z h) _ (k.meter _ _ (k.meter _ _ h))
    · exact h

/-- Two properties kept are kept together. -/
theorem Kept.and {Q : State → Prop} (k : Kept P) (l : Kept Q) : Kept (fun s => P s ∧ Q s) :=
  ⟨fun s x h => ⟨k.store s x h.1, l.store s x h.2⟩, fun s x h => ⟨k.sched s x h.1, l.sched s x h.2⟩,
    fun s x h => ⟨k.money s x h.1, l.money s x h.2⟩, fun s x h => ⟨k.journal s x h.1, l.journal s x h.2⟩,
    fun s x h => ⟨k.dispatch s x h.1, l.dispatch s x h.2⟩, fun s x h => ⟨k.arbiter s x h.1, l.arbiter s x h.2⟩,
    fun s x h => ⟨k.sites s x h.1, l.sites s x h.2⟩, fun s x h => ⟨k.meter s x h.1, l.meter s x h.2⟩,
    fun s h => ⟨k.announce s h.1, l.announce s h.2⟩, fun s n h => ⟨k.raise s n h.1, l.raise s n h.2⟩⟩

end Sys2Proof.Machine
end

