-- ==== Sys2Proof/Laws/Ledger.lean ====
section
/-! SUPPORT. Laws/Ledger.lean: what an evaluation of JOURNAL-HIGH, an appended record and the LOW-BALANCE check do, said once. -/

namespace Sys2Proof.Machine

/-- A change of the JOURNAL-HIGH condition touches the condition, the outputs and the notices (R89, R142). -/
theorem evalJournalHigh_does (s : State) :
    let high := decide (s.journal.level ≤ s.journal.records.length)
    let t := evalJournalHigh s
    t.journal = { s.journal with high := high } ∧ t.sites.links = s.sites.links
      ∧ (high = s.journal.high → t = s)
      ∧ (high ≠ s.journal.high → s.port.lost = 0 → s.port.notices.length < 64 →
          t.port.notices = s.port.notices ++ [.journalHigh high s.journal.records.length s.journal.level])
      ∧ t = { s with
              journal := t.journal, sites := t.sites
              port := { s.port with notices := t.port.notices, lost := t.port.lost } } := by
  dsimp only
  have hh : journalHighOf s.journal.records.length s.journal.level = decide (s.journal.level ≤ s.journal.records.length) := rfl
  unfold evalJournalHigh
  rw [hh]
  by_cases same : decide (s.journal.level ≤ s.journal.records.length) = s.journal.high
  · simp [same]
  · simp only [same, beq_eq_false_iff_ne.2, ne_eq, not_false_eq_true, Bool.false_eq_true, if_false]
    refine ⟨by simp [evalAlarms], by simp [evalAlarms], by simp, ?_, ?_⟩
    · intro _ lost room
      simp [evalAlarms, raise, Config.noticePlaces, lost, room]
    · unfold raise
      dsimp only
      repeat' split
      all_goals rfl

/-- What an append does, and nothing else (R83, R85, R89). -/
theorem appendRecord_does (s : State) (a : Nat) (b : JournalBody) :
    let t := appendRecord s a b
    RecordAppended s t a b
      ∧ t = { s with
              journal := t.journal, sites := t.sites
              port := { s.port with notices := t.port.notices, lost := t.port.lost } } := by
  dsimp only
  have h := evalJournalHigh_does
    (s.setJournal
      { s.journal with
        records := s.journal.records ++ [⟨s.journal.nextSeq, s.sys.clock.map (· / 1000), a, b⟩]
        nextSeq := s.journal.nextSeq + 1 })
  simp only [State.setJournal, List.length_append, List.length_singleton] at h
  obtain ⟨h1, h2, h3, h4, h5⟩ := h
  refine ⟨⟨h1, h2, ?_, ?_⟩, h5⟩
  · intro same
    have k := congrArg (fun t => t.sites) (h3 same)
    exact k
  · intro apart lost room
    show _ ∈ (appendRecord s a b).port.notices
    rw [show (appendRecord s a b).port.notices = _ from h4 apart lost room]
    simp

/-- LOW-BALANCE not due: nothing changes (R72). -/
theorem checkLowBalance_quiet {s : State} {a : Nat} (h : ∀ x, s.account a = some x → x.money.lowDue = none) :
    checkLowBalance s a = s := by
  unfold checkLowBalance
  split
  · rfl
  · next x hx => rw [h x hx]

/-- LOW-BALANCE due: low-notice given is yes and the notice is raised (R72). -/
theorem checkLowBalance_due {s : State} {a : Nat} {x : Account} {balance : Int} {threshold : Nat} (h : s.account a = some x)
    (due : x.money.lowDue = some (balance, threshold)) :
    checkLowBalance s a
      = raise
          (s.setMoney
            { s.money with accounts := Table.set s.money.accounts a { x with money := x.money.withNotice true } })
          (.lowBalance a balance threshold) := by
  unfold checkLowBalance
  rw [h]
  dsimp only
  rw [due]
  dsimp only
  rw [State.modifyAccount, Table.modify_of_get _ h]
end Sys2Proof.Machine
end

