-- ==== Sys2Proof/Laws/SiteRules.lean ====
section
/-! SUPPORT. Laws/SiteRules.lean: what a POLL carries, ST after a start, and what a site that keeps to R138 does with a BATCH, with its
transmitter and with a POLL that asks RESYNC. -/

namespace Sys2Proof.Machine

/-! ## What a POLL carries (R130, R138) -/

/-- Every POLL carries ST. -/
@[simp] theorem pollByte_st (l : LinkRec) : (pollByte l)[3] = l.st := by
  unfold pollByte
  rcases l.ra with _ | _ | _ <;> cases l.resyncPending <;> cases l.st <;> rfl

/-- A POLL asks RESYNC while resync is pending. -/
@[simp] theorem pollByte_resync (l : LinkRec) : (pollByte l)[2] = l.resyncPending := by
  unfold pollByte
  rcases l.ra with _ | _ | _ <;> cases l.resyncPending <;> cases l.st <;> rfl

/-- A POLL says whether RA is given. -/
@[simp] theorem pollByte_raGiven (l : LinkRec) : (pollByte l)[1] = l.ra.isSome := by
  unfold pollByte
  rcases l.ra with _ | _ | _ <;> cases l.resyncPending <;> cases l.st <;> rfl

/-- A POLL carries RA. -/
@[simp] theorem pollByte_ra (l : LinkRec) : (pollByte l)[0] = l.ra.getD false := by
  unfold pollByte
  rcases l.ra with _ | _ | _ <;> cases l.resyncPending <;> cases l.st <;> rfl

/-- After a start of an empty store ST is 0 (R138, R149). -/
theorem LinkRec.st_initial : LinkRec.initial.st = false := rfl

/-- After every start ST is 0 (R138, R149). -/
theorem LinkRec.st_afterStart (l : LinkRec) : l.afterStart.st = false := rfl

/-! ## A site that keeps to R138 -/

namespace SiteSide

/-- A BATCH whose toggle is TT is discarded. -/
theorem onBatch_repeated (y : SiteSide) (entries : List BatchEntry) : y.onBatch y.tt entries = y := by simp [onBatch]

/-- A BATCH with another toggle than TT is taken. -/
theorem onBatch_new {y : SiteSide} {toggle : Bool} (h : toggle ≠ y.tt) (entries : List BatchEntry) :
    y.onBatch toggle entries = { y with tt := toggle, waiting := y.waiting ++ [⟨toggle, entries⟩] } := by
  simp [onBatch, h]

/-- After a BATCH has arrived TT is its toggle, whether or not the site had taken it before. -/
@[simp] theorem tt_onBatch (y : SiteSide) (toggle : Bool) (entries : List BatchEntry) :
    (y.onBatch toggle entries).tt = toggle := by
  unfold onBatch
  split
  · exact Eq.symm ‹_›
  · rfl

/-- A batch keyed and sent is shown in DT. -/
theorem dt_unkey_key {y : SiteSide} {b : BatchTaken} {rest : List BatchTaken} (h : y.keyed = none)
    (hw : y.waiting = b :: rest) : y.key.unkey.dt = b.toggle := by
  simp [key, unkey, h, hw]

/-- On a POLL with RESYNC no batch waits to be keyed, a keyed one goes on, TT and DT are the part's ST, and RESYNC is answered. -/
theorem onPoll_resync {l : LinkRec} (y : SiteSide) (h : l.resyncPending = true) :
    (y.onPoll (pollByte l)).waiting = [] ∧ (y.onPoll (pollByte l)).keyed = y.keyed
      ∧ (y.onPoll (pollByte l)).tt = l.st ∧ (y.onPoll (pollByte l)).dt = l.st
      ∧ (y.onPoll (pollByte l)).resyncAsked = true := by
  simp [onPoll, resync, h]

/-- A POLL without RESYNC moves no toggle and no batch. -/
theorem onPoll_inStep {l : LinkRec} (y : SiteSide) (h : l.resyncPending = false) :
    y.onPoll (pollByte l)
      = { y with resyncAsked := false, echoed := y.echoed || l.ra == some y.rt } := by
  rcases hr : l.ra with _ | _ | _ <;> cases ht : y.rt <;> simp [onPoll, h, hr, ht]

/-- The STATUS of such a site on a POLL that asks RESYNC passes the resync test of stage 2. -/
theorem stageResync_status {s : State} {z : Zone} (y : SiteSide) (h : (s.link z).resyncPending = true) :
    stageResync s z (y.onPoll (pollByte (s.link z))).status
      = evalTakeOut (completeResync s z) z (s.link z).takeOutPresent := by
  obtain ⟨-, -, htt, hdt, hr⟩ := onPoll_resync y h
  simp [stageResync, status, htt, hdt, hr, h]

/-- Reports that no POLL has echoed are held under the same RT. -/
theorem offer_held {y : SiteSide} (h : y.echoed = false) (reports : List Report) : y.offer reports = y := by
  simp [offer, h]

end SiteSide

end Sys2Proof.Machine
end

