-- ==== Sys2Proof/WellFormed.lean ====
section
/-! DEFINITION. WellFormed.lean: which commands are what their row of the table says they are. The operands that are
lines, zones, groups and rates are bounded by their types; what is left to check is the bytes an event carries.
A command that is not well formed still has a meaning: its bytes are received like any others. -/

namespace Sys2Proof

/-- The number two length bytes give, most significant byte first (R186). -/
def lengthBytes (high low : Byte) : Nat := high.toNat * 256 + low.toNat

/-- Exactly one complete office frame: start byte, a length L of 2 to 258, and L + 2 bytes more (12.2). -/
def isOfficeFrame : List Byte → Bool
  | start :: high :: low :: rest =>
    start == 0xA5#8 && decide (2 ≤ lengthBytes high low) && decide (lengthBytes high low ≤ 258)
      && rest.length == lengthBytes high low + 2
  | _ => false

/-- The beginning of an office frame that is not complete: what a gap can cut (R175). -/
def isOfficeFrameBeginning : List Byte → Bool
  | start :: high :: low :: rest =>
    start == 0xA5#8 && decide (2 ≤ lengthBytes high low) && decide (lengthBytes high low ≤ 258)
      && decide (rest.length < lengthBytes high low + 2)
  | start :: rest => start == 0xA5#8 && decide (rest.length < 2)
  | [] => false

/-- Exactly one complete site frame with a length a STATUS may have (12.3). -/
def isStatusFrame : List Byte → Bool
  | start :: high :: low :: rest =>
    start == 0xC3#8 && [4, 13, 22, 31, 40].contains (lengthBytes high low)
      && rest.length == lengthBytes high low + 2
  | _ => false

/-- The beginning of a STATUS frame that is not complete (R129). -/
def isStatusFrameBeginning : List Byte → Bool
  | start :: high :: low :: rest =>
    start == 0xC3#8 && [4, 13, 22, 31, 40].contains (lengthBytes high low)
      && decide (rest.length < lengthBytes high low + 2)
  | start :: rest => start == 0xC3#8 && decide (rest.length < 2)
  | [] => false

/-- The command is the event its row describes. -/
def Instr.wf : Instr → Bool
  | .officeFrameReceived bytes => isOfficeFrame bytes
  | .officeFrameGap bytes => isOfficeFrameBeginning bytes
  | .officeFrameLength high low => decide (lengthBytes high low < 2) || decide (258 < lengthBytes high low)
  | .statusReceived _ bytes => isStatusFrame bytes
  | .siteFrameGap _ bytes => isStatusFrameBeginning bytes
  | _ => true

end Sys2Proof
end

