-- ==== Sys2Proof/Tests/Slice0.lean ====
section
/-! SUPPORT. Tests/Slice0.lean: the checks of WellFormed and the CRC on fixed bytes, and for every statement of
Certificates/Slice0/Obligations.lean a state and operands that meet its hypotheses, clause by clause, with what the part then does.
No test is a statement for the provers. -/

namespace Sys2Proof.Tests

open Sys2Proof.Machine

set_option Elab.async false

/-! ## Bytes and well-formed events -/

/-- The check value of R186. -/
theorem test_crc : crc16 [0x31, 0x32, 0x33, 0x34, 0x35, 0x36, 0x37, 0x38, 0x39] = 0x29B1 := by decide +kernel

theorem test_startedFrame : startedEmptyFrame = officeFrame 0xC3 0 [0x00, 0x00, 0x00] := by decide +kernel

theorem test_wf_accepts :
    Instr.wf (.officeFrameReceived [0xA5, 0x00, 0x02, 0x33, 0x01, 0x00, 0x00]) = true
      ∧ Instr.wf (.officeFrameGap [0xA5]) = true ∧ Instr.wf (.officeFrameGap [0xA5, 0x00, 0x02, 0x33, 0x01, 0x00]) = true
      ∧ Instr.wf (.officeFrameLength 0x00 0x01) = true ∧ Instr.wf (.officeFrameLength 0x01 0x03) = true
      ∧ Instr.wf (.statusReceived 7 [0xC3, 0x00, 0x04, 0x03, 0x00, 0x00, 0x00, 0x00, 0x00]) = true
      ∧ Instr.wf (.siteFrameGap 0 [0xC3, 0x00]) = true ∧ Instr.wf .blockDefine = true := by decide

theorem test_wf_refuses_officeFrame :
    Instr.wf (.officeFrameReceived []) = false ∧ Instr.wf (.officeFrameReceived [0xC3, 0x00, 0x02, 1, 1, 0, 0]) = false
      ∧ Instr.wf (.officeFrameReceived [0xA5, 0x00, 0x01, 1, 0, 0]) = false
      ∧ Instr.wf (.officeFrameReceived [0xA5, 0x01, 0x03]) = false
      ∧ Instr.wf (.officeFrameReceived [0xA5, 0x00, 0x02, 1, 1, 0]) = false := by decide

theorem test_wf_refuses_officeGap :
    Instr.wf (.officeFrameGap []) = false ∧ Instr.wf (.officeFrameGap [0xA4]) = false
      ∧ Instr.wf (.officeFrameGap [0xA5, 0x00, 0x02, 1, 1, 0, 0]) = false
      ∧ Instr.wf (.officeFrameGap [0xA5, 0x00, 0x01]) = false ∧ Instr.wf (.officeFrameGap [0xA5, 0x01, 0x03]) = false := by
  decide

theorem test_wf_refuses_length :
    Instr.wf (.officeFrameLength 0x00 0x02) = false ∧ Instr.wf (.officeFrameLength 0x01 0x02) = false := by decide

theorem test_wf_refuses_status :
    Instr.wf (.statusReceived 0 [0xA5, 0x00, 0x04, 3, 0, 0, 0, 0, 0]) = false
      ∧ Instr.wf (.statusReceived 0 [0xC3, 0x00, 0x05, 3, 0, 0, 0, 0, 0, 0]) = false
      ∧ Instr.wf (.statusReceived 0 [0xC3, 0x00, 0x04, 3, 0, 0, 0, 0]) = false := by decide

theorem test_wf_refuses_siteGap :
    Instr.wf (.siteFrameGap 0 []) = false ∧ Instr.wf (.siteFrameGap 0 [0xA5]) = false
      ∧ Instr.wf (.siteFrameGap 0 [0xC3, 0x00, 0x05]) = false
      ∧ Instr.wf (.siteFrameGap 0 [0xC3, 0x00, 0x04, 3, 0, 0, 0, 0, 0]) = false := by decide

/-! ## States the witnesses are built on -/

/-- The state a command ends in. -/
def after (c : Instr) (s : State) : State :=
  match exec c s with
  | .next t => t
  | _ => s

/-- The part in RUNNING at a clock of 150 s, its output line busy. -/
def running : State :=
  let s := State.reset
  (s.setPort { s.port with mode := .running }).setSys { s.sys with clock := some 150000 }

/-- A TWO_WAY, a NUMERIC and an ALPHA subscriber, and a GROUP of the first two. -/
def sub12 : Subscriber := ⟨.active, 7, .normal, .pager ⟨.twoWay, 300012, 3, 0x10, true, none, 1⟩⟩
def sub13 : Subscriber := ⟨.active, 7, .normal, .pager ⟨.numeric, 300013, 4, 0, false, none, 1⟩⟩
def sub14 : Subscriber := ⟨.suspended, 7, .priority, .pager ⟨.alpha, 300014, 7, 0, false, none, 0⟩⟩
def sub20 : Subscriber := ⟨.active, 8, .normal, .group [12, 13]⟩

def directory : Directory :=
  { subs := [(12, sub12), (13, sub13), (14, sub14), (20, sub20)]
    blocks := (Vector.replicate 8 none).set 0 (some ⟨5550000, 100, 0⟩)
    airMap := [(300012, 12), (300013, 13), (300014, 14)] }

def account7 : Account := ⟨.opened, 2, .prepaid 100 (some 50) false, 0, 0, 0, 0, 0, 3⟩
def account8 : Account := ⟨.opened, 2, .postpaid 500, 0, 0, 0, 0, 0, 1⟩
def account9 : Account := ⟨.suspended, 2, .prepaid 0 none false, 0, 0, 0, 0, 0, 0⟩
def plan2 : Plan := ⟨40, 25, 3, 10, 30, 8, 3⟩
def plan3 : Plan := ⟨40, 25, 3, 10, 30, 8, 0⟩

/-- A page for subscriber 12, in WAIT_TICKET. -/
def page1 : Page :=
  { subscriber := 12, via := none, account := 7, origin := .officeLink, cls := .normal, bodyKind := .tone, body := []
    override := false, state := .waitTicket, attempts := 0, stage := 0, ticketsOut := 0, aired := false, transmissions := 0
    estimate := 40, attemptFee := 8, accepted := 100, expiry := 300, retryDue := none, ackDeadline := none }

/-- The part with subscribers, a block, accounts and plans, and nothing live. -/
def town : State :=
  (running.setDir directory).setMoney
    { accounts := [(7, account7), (8, account8), (9, account9)], plans := [(2, plan2), (3, plan3)] }

/-- The same with one live page, reference 5. -/
def busyTown : State :=
  (town.setStore { pages := [(5, page1)], refCounter := 6, mailboxes := [] }).setSched
    { town.sched with expiry := [(300000, 5)] }

def inStandby (s : State) : State := s.setPort { s.port with mode := .standby }

/-- The part with one order in the queue, tag 7, and the answer slot empty. -/
def ordered (s : State) (kind : Byte) (body : List Byte) : State :=
  s.setPort { s.port with orders := [⟨kind, 7, body⟩], slot := none, restart := .none }

/-- Such a state meets the hypothesis that every statement about an order has. -/
theorem test_ordered (s : State) (kind : Byte) (body : List Byte) : OrderAt (ordered s kind body) kind 7 body [] :=
  ⟨rfl, rfl, by simp [ordered, State.setPort]⟩

/-- And what it holds outside the port is what the state it is made from holds. -/
theorem test_ordered_keeps (s : State) (kind : Byte) (body : List Byte) :
    (ordered s kind body).setPort s.port = s := rfl

/-- The body answered to an order. -/
def reply (c : Instr) (s : State) (kind : Byte) (body : List Byte) : Option (List Byte) :=
  (after c (ordered s kind body)).port.slot.map fun a => a.body

/-- An order is answered with a result. -/
abbrev Gives (c : Instr) (s : State) (kind : Byte) (body : List Byte) (r : Result) : Prop :=
  reply c s kind body = some r.body

/-! ## The block as a whole -/

theorem test_StepTakesTheFrontCommand :
    (town.setPending [.blockDefine, .blockClear]).pending = .blockDefine :: [.blockClear] ∧ town.pending = []
      ∧ step town = .next (town.setSys { town.sys with base := 1, clock := some 150001 })
      ∧ (elapse (town.setSys { town.sys with clock := some 4294967295999 }) 1).sys.clock = some 4294967295999 := by
  refine ⟨rfl, rfl, rfl, ?_⟩
  decide +kernel

/-- A command whose event cannot happen ends in a next state all the same, the commands behind it left waiting. -/
theorem test_EveryCommandCompletes :
    exec .answerSent (town.setPending [.blockDefine]) = .next (town.setPending [.blockDefine])
      ∧ (after .meterRead ((ordered town 0x30 [9]).setPending [.blockClear])).pending = [.blockClear] :=
  ⟨rfl, by decide +kernel⟩

theorem test_Reset :
    State.reset.port.linkHold = true ∧ State.reset.sys.rate = .r115200 ∧ (State.reset.link 7).tx = []
      ∧ (State.reset.line 15).txd = [] ∧ State.reset.meter.owing = [] := by decide +kernel

theorem test_OrdersAreExecutedAndAnswered :
    runsOrder .meterRead ⟨0x30, 7, [9]⟩ = true ∧ Gives .meterRead town 0x30 [9] .badValue
      ∧ runsOrder .unknownOrderKind ⟨0x37, 7, []⟩ = true ∧ runsOrder .unknownOrderKind ⟨0, 7, []⟩ = true
      ∧ town.port.orders = [] ∧ after .meterRead town = town
      ∧ (.zoneServiceIn, 2) ∈ fixedLengths ∧ Gives .zoneServiceIn town 0x24 [3] .badForm
      ∧ runsOrder .classConfigWrite ⟨0x14, 7, List.replicate 13 0⟩ = true
      ∧ Gives .classConfigWrite town 0x14 (List.replicate 13 0) .badForm
      ∧ Gives .blockDefine town 0x01 (List.replicate 8 0) .badForm := by decide +kernel

/-! ## Subscriber Directory orders -/

theorem test_BlockOrders :
    Gives .blockDefine town 0x01 (writeFields [1, 4, 2, 2] [8, 0, 1, 200]) .badValue
      ∧ Gives .blockClear town 0x02 (writeFields [1] [8]) .badValue
      ∧ Gives .blockDefine town 0x01 (writeFields [1, 4, 2, 2] [7, 9999999, 1, 4095]) (.done [])
      ∧ Gives .blockDefine town 0x01 (writeFields [1, 4, 2, 2] [7, 5550100, 1, 100]) (.done [])
      ∧ Gives .blockDefine town 0x01 (writeFields [1, 4, 2, 2] [7, 5550099, 1, 100]) .badValue
      ∧ Gives .blockDefine town 0x01 (writeFields [1, 4, 2, 2] [7, 5550100, 1, 99]) .badValue
      ∧ Gives .blockDefine town 0x01 (writeFields [1, 4, 2, 2] [0, 5550000, 4096, 0]) (.done [])
      ∧ Gives .blockDefine town 0x01 (writeFields [1, 4, 2, 2] [0, 5550000, 4097, 0]) .badValue
      ∧ Gives .blockDefine town 0x01 (writeFields [1, 4, 2, 2] [0, 5550000, 0, 0]) .badValue
      ∧ town.dir.blocks[0] = some ⟨5550000, 100, 0⟩ ∧ Gives .blockClear town 0x02 (writeFields [1] [0]) (.done [])
      ∧ town.dir.blocks[7] = none ∧ Gives .blockClear town 0x02 (writeFields [1] [7]) .unknown := by decide +kernel

/-- The body of SUB-DEFINE. -/
def defineBody (fields members : List Nat) : List Byte :=
  writeFields [2, 1, 2, 1, 1, 3, 1, 1, 1, 1, 1, 1, 1] fields ++ (be 1 members.length ++ members.flatMap (be 2))

theorem test_SubDefine_pager :
    Gives .subDefine town 0x03 (defineBody [4096, 2, 7, 2, 1, 9, 1, 3, 1, 0, 1, 0, 0] []) .badValue
      ∧ Gives .subDefine town 0x03 (defineBody [15, 4, 7, 2, 1, 9, 1, 3, 1, 0, 1, 0, 0] []) .badValue
      ∧ Gives .subDefine town 0x03 (defineBody [15, 2, 7, 0, 1, 9, 1, 3, 1, 0, 1, 0, 0] []) .badValue
      ∧ Gives .subDefine town 0x03 (defineBody [15, 2, 7, 2, 1, 9, 1, 3, 1, 8, 1, 0, 0] []) .badValue
      ∧ Gives .subDefine town 0x03 (defineBody [15, 1, 7, 2, 1, 9, 1, 3, 1, 0, 1, 1, 0] []) .badValue
      ∧ ((ZoneSet.zones 0xF0).length ≤ 4 ∧ ZoneSet.mem 0xF0 3 = false ∧ town.account 7 ≠ none ∧ town.sub 4095 = none
        ∧ Table.get town.dir.airMap 4194303 = none
        ∧ Gives .subDefine town 0x03 (defineBody [4095, 2, 7, 2, 1, 4194303, 1, 3, 1, 0xF0, 1, 1, 0] [65535]) (.done [])
        ∧ (town.account 1023 = none
          ∧ Gives .subDefine town 0x03 (defineBody [4095, 2, 1023, 2, 1, 4194303, 1, 3, 1, 0xF0, 1, 1, 0] []) .unknown)
        ∧ (town.sub 12 ≠ none
          ∧ Gives .subDefine town 0x03 (defineBody [12, 2, 7, 2, 1, 4194303, 1, 3, 1, 0xF0, 1, 1, 0] []) .state)
        ∧ (Table.get town.dir.airMap 300012 ≠ none
          ∧ Gives .subDefine town 0x03 (defineBody [0, 0, 7, 1, 1, 300012, 1, 3, 1, 0xF0, 1, 0, 0] []) .inUse)) := by
  decide +kernel

theorem test_SubDefine_group :
    (town.account 7 ≠ none ∧ town.sub 30 = none ∧ sub12.body = .pager ⟨.twoWay, 300012, 3, 0x10, true, none, 1⟩
        ∧ Gives .subDefine town 0x03 (defineBody [30, 3, 7, 2, 0, 0, 0, 0, 0, 0, 0, 0, 1] [12, 14]) (.done []))
      ∧ Gives .subDefine town 0x03 (defineBody [30, 3, 7, 2, 0, 0, 0, 0, 0, 0, 0, 0, 1] []) .badValue
      ∧ Gives .subDefine town 0x03 (defineBody [30, 3, 7, 2, 0, 0, 0, 0, 0, 0, 0, 0, 1] (List.range 17)) .badValue
      ∧ (town.sub 99 = none
        ∧ Gives .subDefine town 0x03 (defineBody [30, 3, 7, 2, 0, 0, 0, 0, 0, 0, 0, 0, 1] [12, 99]) .unknown)
      ∧ Gives .subDefine town 0x03 (defineBody [20, 3, 7, 2, 0, 0, 0, 0, 0, 0, 0, 0, 1] [12]) .state
      ∧ (town.sub 20 = some ⟨.active, 8, .normal, .group [12, 13]⟩
        ∧ Gives .subDefine town 0x03 (defineBody [30, 3, 7, 2, 0, 0, 0, 0, 0, 0, 0, 0, 1] [12, 20]) .badValue) := by
  decide +kernel

/-- The body of SUB-ALTER. -/
def alterBody (fields : List Nat) : List Byte := writeFields [2, 1, 3, 2, 1, 1, 1, 1, 1, 1, 1] fields

theorem test_SubAlter_pager :
    Gives .subAlter town 0x04 (alterBody [4096, 1, 9, 7, 2, 1, 3, 1, 0, 1, 0]) .badValue
      ∧ (town.sub 15 = none ∧ Gives .subAlter town 0x04 (alterBody [15, 1, 9, 7, 2, 1, 3, 1, 0, 1, 0]) .unknown)
      ∧ (town.sub 12 = some sub12 ∧ Gives .subAlter town 0x04 (alterBody [12, 0, 9, 7, 2, 1, 3, 1, 0, 1, 0]) .badValue)
      ∧ (town.account 9 ≠ none ∧ Table.get town.dir.airMap 0 = none ∧ town.store.pages = []
        ∧ Gives .subAlter town 0x04 (alterBody [12, 1, 0, 9, 2, 1, 3, 1, 0xF0, 1, 1]) (.done []))
      ∧ Gives .subAlter busyTown 0x04 (alterBody [12, 1, 300012, 7, 1, 1, 4, 1, 0, 1, 0]) (.done [])
      ∧ (town.account 1023 = none
        ∧ Gives .subAlter town 0x04 (alterBody [12, 1, 300012, 1023, 1, 1, 4, 1, 0, 1, 0]) .unknown)
      ∧ (Table.get town.dir.airMap 300013 ≠ none
        ∧ Gives .subAlter town 0x04 (alterBody [12, 1, 300013, 7, 1, 1, 4, 1, 0, 1, 0]) .inUse)
      ∧ ((5, page1) ∈ busyTown.store.pages ∧ page1.subscriber = 12
        ∧ Gives .subAlter busyTown 0x04 (alterBody [12, 1, 0, 7, 1, 1, 4, 1, 0, 1, 0]) .inUse) := by decide +kernel

theorem test_SubAlter_group :
    town.sub 20 = some sub20 ∧ Gives .subAlter town 0x04 (alterBody [20, 0, 0, 7, 1, 0, 0, 0, 0, 0, 0]) (.done [])
      ∧ Gives .subAlter town 0x04 (alterBody [20, 0, 0, 1023, 1, 0, 0, 0, 0, 0, 0]) .unknown
      ∧ Gives .subAlter town 0x04 (alterBody [20, 1, 0, 7, 1, 0, 0, 0, 0, 0, 0]) .badValue := by decide +kernel

theorem test_SubState :
    Gives .subState town 0x05 (writeFields [2, 1] [4096, 1]) .badValue
      ∧ Gives .subState town 0x05 (writeFields [2, 1] [12, 0]) .badValue
      ∧ Gives .subState town 0x05 (writeFields [2, 1] [12, 3]) .badValue
      ∧ Gives .subState town 0x05 (writeFields [2, 1] [12, stateNumber .suspended]) (.done [])
      ∧ Gives .subState town 0x05 (writeFields [2, 1] [4095, stateNumber .active]) .unknown := by decide +kernel

theorem test_SubClose :
    Gives .subClose town 0x06 (writeFields [2] [4096]) .badValue ∧ Gives .subClose town 0x06 (writeFields [2] [4095]) .unknown
      ∧ (town.sub 14 = some sub14 ∧ Gives .subClose town 0x06 (writeFields [2] [14]) (.done []))
      ∧ Gives .subClose town 0x06 (writeFields [2] [13]) .inUse
      ∧ (town.sub 20 = some sub20 ∧ Gives .subClose town 0x06 (writeFields [2] [20]) (.done []))
      ∧ Gives .subClose (town.setStore { town.store with pages := [(5, { page1 with via := some 20 })] }) 0x06
          (writeFields [2] [20]) .inUse := by decide +kernel

/-- The body of GROUP-MEMBERS. -/
def membersBody (i : Nat) (members : List Nat) : List Byte :=
  writeFields [2] [i] ++ (be 1 members.length ++ members.flatMap (be 2))

theorem test_GroupMembers :
    Gives .groupMembers town 0x07 (membersBody 20 []) .badValue ∧ Gives .groupMembers town 0x07 (membersBody 20 [20]) .badValue
      ∧ Gives .groupMembers town 0x07 (membersBody 4096 [12]) .badValue
      ∧ (town.sub 20 = some sub20 ∧ sub20.body = .group [12, 13]
        ∧ Gives .groupMembers town 0x07 (membersBody 20 [13, 14]) (.done []))
      ∧ (town.sub 21 = none ∧ Gives .groupMembers town 0x07 (membersBody 21 [13]) .unknown)
      ∧ Gives .groupMembers town 0x07 (membersBody 20 [13, 99]) .unknown
      ∧ Gives .groupMembers town 0x07 (membersBody 12 [13]) .state
      ∧ Gives .groupMembers (town.setDir { town.dir with subs := town.dir.subs ++ [(21, sub20)] }) 0x07
          (membersBody 20 [13, 21]) .badValue := by decide +kernel

theorem test_DirectoryQueries :
    Gives .subQuery town 0x08 (writeFields [2] [4096]) .badValue
      ∧ Gives .resolve town 0x09 (writeFields [1, 4] [2, 0]) .badValue
      ∧ Gives .subQuery town 0x08 (writeFields [2] [4095]) (.done [0])
      ∧ Gives .subQuery town 0x08 (writeFields [2] [14])
          (.done
            [2, 1, 1, 0x04, 0x93, 0xEE, 0, 7, 1, 1, 7, 1, 0, 1, 0, 0, 0, 0, 0, 0, 0, 0, 0, 1, 0x00, 0x54, 0xAF, 0xBE, 1, 0, 0,
              0, 0, 0])
      ∧ Gives .subQuery town 0x08 (writeFields [2] [20])
          (.done
            [1, 3, 0, 0, 0, 0, 0, 8, 2, 0, 0, 0, 0, 0, 0, 0, 0, 0, 0, 0, 0, 1, 2, 0, 12, 0, 13, 1, 0x00, 0x54, 0xAF, 0xC4, 0, 0,
              0, 0, 0, 0])
      ∧ Gives .resolve town 0x09 (writeFields [1, 4] [0, 10000000]) .badValue
      ∧ Gives .resolve town 0x09 (writeFields [1, 4] [0, 5549999]) .unknown
      ∧ Gives .resolve town 0x09 (writeFields [1, 4] [0, 5550099]) .unknown
      ∧ Gives .resolve town 0x09 (writeFields [1, 4] [0, 5550012]) (.done [0, 12, 2, 1, 1, 0])
      ∧ Gives .resolve town 0x09 (writeFields [1, 4] [1, 4194304]) .badValue
      ∧ Gives .resolve town 0x09 (writeFields [1, 4] [1, 4194303]) .unknown
      ∧ Gives .resolve town 0x09 (writeFields [1, 4] [1, 300014]) (.done [0, 14, 1, 2, 0, 0]) := by decide +kernel

/-- Its block table keeps the law that RESOLVE and the number checks are stated under. -/
theorem test_BlocksLaw : BlocksLaw town := by
  have one : ∀ e : Fin 8, town.dir.blocks[e] = if e = 0 then some ⟨5550000, 100, 0⟩ else none := by decide +kernel
  constructor
  · intro e b h
    rw [one] at h
    split at h
    · cases h; decide
    · cases h
  · intro e f b c apart h k
    rw [one] at h k
    split at h
    · split at k
      · omega
      · cases k
    · cases h

/-! ## Line and phrase orders -/

/-- A line of the part with its record changed. -/
def withLine (s : State) (n : LineId) (f : Line → Line) : State := s.setLine n (f (s.line n))

theorem test_LineConfig :
    (town.line 15).asm = .closed ∧ (town.line 15).prompt = none
      ∧ Gives .lineConfig town 0x0A (writeFields [1, 1, 2, 1, 1] [15, lineClassNumber .console, 1200, 5, 120]) (.done [])
      ∧ Gives .lineConfig (withLine town 15 fun l => { l with asm := .skip }) 0x0A
          (writeFields [1, 1, 2, 1, 1] [15, lineClassNumber .caller, 38400, 60, 10]) .state
      ∧ Gives .lineConfig (withLine town 15 fun l => { l with prompt := some .x }) 0x0A
          (writeFields [1, 1, 2, 1, 1] [15, lineClassNumber .caller, 38400, 60, 10]) .state
      ∧ Gives .lineConfig town 0x0A (writeFields [1, 1, 2, 1, 1] [15, 0, 1201, 5, 120]) .badValue
      ∧ Gives .lineConfig town 0x0A (writeFields [1, 1, 2, 1, 1] [15, 0, 1200, 4, 120]) .badValue
      ∧ Gives .lineConfig town 0x0A (writeFields [1, 1, 2, 1, 1] [15, 0, 1200, 5, 121]) .badValue
      ∧ Gives .lineConfig town 0x0A (writeFields [1, 1, 2, 1, 1] [16, 0, 1200, 5, 120]) .badValue
      ∧ Gives .lineConfig town 0x0A (writeFields [1, 1, 2, 1, 1] [15, 2, 1200, 5, 120]) .badValue := by decide +kernel

theorem test_LinePause_and_LineResume :
    Gives .linePause town 0x0B (writeFields [1] [15]) (.done [])
      ∧ ((after .linePause (ordered town 0x0B [15])).line 15).paused = true
      ∧ ((town.line 0).paused = false ∧ Gives .lineResume town 0x0C (writeFields [1] [0]) (.done []))
      ∧ ((withLine town 0 fun l => { l with paused := true, asm := .number [] }).line 0).paused = true
      ∧ ((after .lineResume (ordered (withLine town 0 fun l => { l with paused := true, asm := .number [] }) 0x0C [0])).line 0).timer
          = some 15000
      ∧ Gives .linePause town 0x0B (writeFields [1] [16]) .badValue
      ∧ Gives .lineResume town 0x0C (writeFields [1] [16]) .badValue := by decide +kernel

/-- The part with phrase 99 DEFINED. -/
def phrased : State := town.setIntake { town.intake with phrases := [(8, [0x44, 0x45]), (99, [0x2A, 0x30, 0x38])] }

theorem test_LineAndPhraseQueries :
    Gives .lineQuery town 0x0D (writeFields [1] [15])
        (.done [0, 0x25, 0x80, 15, 30, 0, 0, 0, 0, 0, 0, 0, 1, 0, 0, 0, 0, 0, 0])
      ∧ Gives .lineQuery town 0x0D (writeFields [1] [16]) .badValue
      ∧ Gives .phraseQuery town 0x10 (writeFields [1] [100]) .badValue
      ∧ (Table.get town.intake.phrases 99 = none ∧ Gives .phraseQuery town 0x10 (writeFields [1] [99]) (.done [0, 0, 0]))
      ∧ Table.get phrased.intake.phrases 99 = some [0x2A, 0x30, 0x38]
      ∧ Gives .phraseQuery phrased 0x10 (writeFields [1] [99]) (.done [1, 1, 3, 0x2A, 0x30, 0x38]) := by decide +kernel

/-- The body of PHRASE-SET. -/
def phraseBody (n : Nat) (text : List Byte) : List Byte := writeFields [1] [n] ++ (be 1 text.length ++ text)

theorem test_PhraseOrders :
    (escapeState [0x2A, 0x30, 0x38, 0x41] = some .plain
        ∧ Gives .phraseSet town 0x0E (phraseBody 99 [0x2A, 0x30, 0x38, 0x41]) (.done []))
      ∧ Gives .phraseSet town 0x0E (phraseBody 0 (List.replicate 40 0x7E)) (.done [])
      ∧ Gives .phraseSet town 0x0E (phraseBody 0 []) .badValue ∧ Gives .phraseSet town 0x0E (phraseBody 100 [0x41]) .badValue
      ∧ Gives .phraseSet town 0x0E (phraseBody 0 [0x7F]) .badValue ∧ Gives .phraseSet town 0x0E (phraseBody 0 [0x2A]) .badValue
      ∧ Gives .phraseSet town 0x0E (phraseBody 0 [0x2A, 0x30]) .badValue
      ∧ Gives .phraseSet town 0x0E (phraseBody 0 [0x2A, 0x41]) .badValue
      ∧ Gives .phraseSet town 0x0E (phraseBody 0 (List.replicate 41 0x41)) .badForm
      ∧ Gives .phraseClear town 0x0F (writeFields [1] [100]) .badValue
      ∧ Gives .phraseClear town 0x0F (writeFields [1] [99]) .unknown
      ∧ Gives .phraseClear phrased 0x0F (writeFields [1] [99]) (.done []) := by decide +kernel

/-! ## Page orders -/

/-- The body of PAGE-SUBMIT. -/
def submitBody (i c o : Nat) (text : List Byte) : List Byte := writeFields [2, 1, 1] [i, c, o] ++ (be 1 text.length ++ text)

/-- A zone of the part in a state. -/
def withZone (s : State) (z : Zone) (f : ZoneRec → ZoneRec) : State := s.setZone z (f (s.zone z))

/-- The part with zone 3 in service. -/
def served : State := withZone town 3 fun r => { r with state := .inService }

def record1 : JournalRecord := ⟨1, some 100, 7, .credit 5 105⟩

/-- The part with a number of records, the oldest with number 1. -/
def withRecords (s : State) (n : Nat) : State :=
  s.setJournal
    { s.journal with
      records := (List.range n).map fun k => { record1 with seq := BitVec.ofNat 32 (k + 1) }
      nextSeq := BitVec.ofNat 32 (n + 1), high := decide (1792 ≤ n) }

theorem test_PageSubmit_refused :
    Gives .pageSubmit town 0x11 (submitBody 12 3 0 (List.replicate 241 0x41)) .badForm
      ∧ Gives .pageSubmit town 0x11 (submitBody 4096 3 0 []) .badValue ∧ Gives .pageSubmit town 0x11 (submitBody 12 4 0 []) .badValue
      ∧ Gives .pageSubmit town 0x11 (submitBody 12 3 2 []) .badValue
      ∧ Gives .pageSubmit town 0x11 (submitBody 12 3 0 [0x7F]) .badValue
      ∧ Gives .pageSubmit (inStandby town) 0x11 (submitBody 12 3 0 []) .notRunning
      ∧ Gives .pageSubmit town 0x11 (submitBody 4095 3 0 []) (.refused .e02)
      ∧ Gives .pageSubmit town 0x11 (submitBody 4095 0 0 []) (.refused .e02)
      ∧ Gives .pageSubmit town 0x11 (submitBody 14 3 0 []) (.refused .e02)
      ∧ Gives .pageSubmit (town.setDir { town.dir with subs := [(14, sub14), (20, { sub20 with body := .group [14] })] }) 0x11
          (submitBody 20 3 0 []) (.refused .e12)
      ∧ Gives .pageSubmit (town.setDir { town.dir with subs := [(12, { sub12 with account := 9 })] }) 0x11
          (submitBody 12 1 0 []) (.refused .e03)
      ∧ Gives .pageSubmit town 0x11 (submitBody 13 3 0 [0x41]) (.refused .e08)
      ∧ Gives .pageSubmit (withRecords town 2048) 0x11 (submitBody 12 3 0 []) (.refused .e09)
      ∧ Gives .pageSubmit town 0x11 (submitBody 12 0 0 (List.replicate 240 0x41)) (.refused .e10) := by decide +kernel

theorem test_PageSubmit_hypotheses :
    Refuses town ⟨12, .emergency, false, .alpha, List.replicate 240 0x41, .officeLink⟩ .e10
      ∧ Accepts town ⟨12, .normal, false, .tone, [], .officeLink⟩ sub12 account7 plan2
      ∧ Accepts town ⟨12, .emergency, true, .alpha, List.replicate 240 0x41, .officeLink⟩ sub12 account7 plan2
      ∧ town.liveTickets.length ≤ 2048 := by
  have takes : ∀ kind n, n ≤ 240 → Takes town kind n 12 := fun kind n h => ⟨sub12, _, rfl, rfl, h⟩
  have sole : ∀ kind n, n ≤ 240 → ∀ i ∈ recipientsOf town 12 sub12, Takes town kind n i := by
    intro kind n h i m
    rw [show recipientsOf town 12 sub12 = [12] from rfl, List.mem_singleton] at m
    exact m ▸ takes kind n h
  have room : town.store.pages.length + 1 ≤ 1024 ∧ town.journal.records.length + town.store.pages.length + 1 ≤ 2048 := by
    decide +kernel
  refine ⟨?_, ⟨rfl, rfl, by decide +kernel, rfl, rfl, rfl, sole _ _ (by decide), room.1, room.2, .inr ?_⟩,
    ⟨rfl, rfl, by decide +kernel, rfl, rfl, rfl, sole _ _ (by decide +kernel), room.1, room.2, .inl rfl⟩, by decide +kernel⟩
  · refine .inr (.inr (.inr ⟨rfl, sole _ _ (by decide +kernel), room.1, room.2, rfl, ⟨plan2, rfl, ?_⟩, rfl⟩))
    show ¬ ((_ : Int) ≤ _)
    decide +kernel
  · show (_ : Int) ≤ _
    decide +kernel

theorem test_PageSubmit_admitted :
    Gives .pageSubmit town 0x11 (submitBody 12 3 0 []) (.done [0, 1, 1, 0, 1])
      ∧ Gives .pageSubmit town 0x11 (submitBody 20 3 1 [0x31]) (.done [0, 1, 2, 0, 1, 0, 2])
      ∧ ((after .pageSubmit (ordered served 0x11 (submitBody 12 3 0 []))).page 1).map (·.state) = some .attempt
      ∧ ((after .pageSubmit (ordered town 0x11 (submitBody 12 3 0 []))).page 1).map (·.state) = some .retryWait := by
  decide +kernel

theorem test_counted (body : List Byte) (fixed entry most : Nat) (count : Byte) (at_ : body[fixed]? = some count)
    (bad : most < count.toNat ∨ body.length ≠ fixed + 1 + entry * count.toNat) : ¬ Counted body fixed entry most := by
  rintro ⟨c, here, few, all⟩
  cases at_.symm.trans here
  omega

/-- A body whose count is past its most, or does not tell its length, is malformed; one with fewer bytes has no count. -/
theorem test_CountedBodies :
    ¬ Counted (writeFields [2, 1] [20, 2] ++ be 2 13) 2 2 255 ∧ ¬ Counted [0, 20] 2 2 255
      ∧ ¬ Counted (1 :: 41 :: List.replicate 41 0x41) 1 1 40 ∧ Counted (1 :: 40 :: List.replicate 40 0x41) 1 1 40 := by
  refine ⟨test_counted _ _ _ _ 2 rfl (by decide +kernel), ?_, test_counted _ _ _ _ 41 rfl (by decide +kernel), 40, rfl,
    by decide +kernel⟩
  rintro ⟨_, h, _⟩
  cases h

theorem test_CountedBodies_badForm :
    Gives .groupMembers town 0x07 (writeFields [2, 1] [20, 2] ++ be 2 13) .badForm
      ∧ Gives .groupMembers town 0x07 [0, 20] .badForm
      ∧ Gives .subDefine town 0x03 (defineBody [15, 2, 7, 2, 1, 9, 1, 3, 1, 0, 1, 0, 0] [] ++ [0]) .badForm
      ∧ Gives .phraseSet town 0x0E (1 :: 41 :: List.replicate 41 0x41) .badForm
      ∧ Gives .phraseSet town 0x0E (1 :: 40 :: List.replicate 40 0x41) (.done [])
      ∧ Gives .phraseSet town 0x0E [1, 2, 0x41] .badForm
      ∧ Gives .pageSubmit town 0x11 (submitBody 12 3 0 [0x41] ++ [0x41]) .badForm := by decide +kernel

theorem test_PageCancel :
    Gives .pageCancel town 0x12 (writeFields [2] [0]) .badValue ∧ Gives .pageCancel town 0x12 (writeFields [2] [65535]) .unknown
      ∧ busyTown.page 5 = some page1 ∧ Gives .pageCancel busyTown 0x12 (writeFields [2] [5]) (.done [0, 0, 0, 0, 0])
      ∧ (after .pageCancel (ordered busyTown 0x12 [0, 5])).page 5 = none
      ∧ (after .pageCancel (ordered busyTown 0x12 [0, 5])).journal.records.length = 1 := by decide +kernel

theorem test_PageQuery_and_HeldList :
    Gives .pageQuery town 0x13 (writeFields [2] [0]) .badValue ∧ Gives .pageQuery town 0x13 (writeFields [2] [65535]) .unknown
      ∧ busyTown.page 5 = some page1
      ∧ Gives .pageQuery busyTown 0x13 (writeFields [2] [5])
          (.done
            ([0, 5, 0, 12, 0, 0, 0, 0, 7, 16, 2, 0, 0, 0, 0, 0, 0, 0, 0, 0, 0, 0, 0, 40, 0, 8, 0, 0, 0, 100, 0, 0, 1, 44]
              ++ List.replicate 21 0))
      ∧ Gives .heldList town 0x15 (writeFields [2] [4096]) .badValue ∧ Gives .heldList town 0x15 (writeFields [2] [4095]) .unknown
      ∧ town.sub 12 ≠ none ∧ Gives .heldList town 0x15 (writeFields [2] [12]) (.done [0])
      ∧ Gives .heldList
          (town.setStore { pages := [(5, { page1 with state := .held })], refCounter := 6, mailboxes := [(12, [5])] }) 0x15
          (writeFields [2] [12]) (.done [1, 0, 5, 2, 0, 0, 0, 100, 0, 0, 1, 44]) := by decide +kernel

/-- The body of CLASS-CONFIG with parameters. -/
def classBody (fields : List Nat) : List Byte := writeFields [1, 1, 2, 2, 1, 1, 1, 2, 2, 1] fields

theorem test_ClassConfig :
    Gives .classConfigRead town 0x14 (writeFields [1] [classNumber .priority])
        (.done [30, 0, 30, 0x02, 0x58, 10, 48, 2, 0, 120, 0, 200, 1])
      ∧ Gives .classConfigRead town 0x14 (writeFields [1] [3]) .badValue
      ∧ Gives .classConfigWrite town 0x14 (classBody [3, 10, 10, 60, 1, 1, 1, 30, 0, 0]) .badValue
      ∧ Gives .classConfigWrite town 0x14 (classBody [0, 120, 600, 7200, 15, 168, 4, 600, 0, 0])
          (.done [120, 0x02, 0x58, 0x1C, 0x20, 15, 168, 4, 0x02, 0x58, 0, 0, 0])
      ∧ Gives .classConfigWrite town 0x14 (classBody [0, 120, 600, 7200, 15, 168, 4, 600, 50, 0]) .badValue
      ∧ Gives .classConfigWrite town 0x14 (classBody [2, 10, 600, 599, 1, 1, 1, 30, 2000, 1]) .badValue
      ∧ Gives .classConfigWrite town 0x14 (classBody [2, 10, 10, 60, 1, 1, 1, 30, 2000, 1])
          (.done [10, 0, 10, 0, 60, 1, 1, 1, 0, 30, 0x07, 0xD0, 1])
      ∧ Gives .classConfigWrite town 0x14 (classBody [2, 10, 10, 60, 1, 1, 1, 30, 1999, 1]) .badValue
      ∧ Gives .classConfigWrite town 0x14 (classBody [2, 9, 10, 60, 1, 1, 1, 30, 0, 1]) .badValue := by decide +kernel

/-! ## Account and tariff orders -/

/-- The bodies of ACCOUNT-OPEN and ACCOUNT-SET. -/
def openBody (fields : List Nat) : List Byte := writeFields [2, 1, 1, 1, 4, 1, 4] fields
def setBody (fields : List Nat) : List Byte := writeFields [2, 1, 1, 4, 1, 4] fields

theorem test_AccountOpen :
    Gives .accountOpen town 0x16 (openBody [1024, 0, 2, 0, 0, 0, 0]) .badValue
      ∧ Gives .accountOpen town 0x16 (openBody [10, 0, 32, 0, 0, 0, 0]) .badValue
      ∧ Gives .accountOpen town 0x16 (openBody [10, 2, 2, 0, 0, 0, 0]) .badValue
      ∧ Gives .accountOpen town 0x16 (openBody [10, 0, 2, 1, 2147483648, 0, 0]) .badValue
      ∧ Gives .accountOpen town 0x16 (openBody [10, 1, 2, 0, 0, 0, 0]) .badValue
      ∧ Gives .accountOpen town 0x16 (openBody [10, 1, 2, 1, 0, 1, 0]) .badValue
      ∧ (town.plan 31 = none ∧ Gives .accountOpen town 0x16 (openBody [10, 0, 31, 0, 0, 0, 0]) .unknown)
      ∧ (town.account 7 ≠ none ∧ Gives .accountOpen town 0x16 (openBody [7, 0, 2, 0, 0, 0, 0]) .state)
      ∧ (town.plan 2 = some plan2 ∧ town.account 1023 = none
        ∧ Gives .accountOpen town 0x16 (openBody [1023, 0, 2, 1, 2147483647, 0, 0]) (.done [])
        ∧ Gives .accountOpen town 0x16 (openBody [1023, 0, 2, 0, 0, 0, 0]) (.done [])
        ∧ Gives .accountOpen town 0x16 (openBody [1023, 1, 2, 0, 0, 1, 4294967295]) (.done [])) := by decide +kernel

theorem test_AccountSet :
    Gives .accountSet town 0x17 (setBody [1024, 2, 0, 0, 0, 0]) .badValue
      ∧ Gives .accountSet town 0x17 (setBody [1023, 2, 0, 0, 0, 0]) .unknown
      ∧ (town.account 7 = some account7 ∧ Gives .accountSet town 0x17 (setBody [7, 2, 0, 0, 1, 0]) .badValue)
      ∧ Gives .accountSet town 0x17 (setBody [7, 31, 0, 0, 0, 0]) .unknown
      ∧ (Gives .accountSet town 0x17 (setBody [7, 3, 1, 100, 0, 0]) (.done [])
        ∧ (after .accountSet (ordered town 0x17 (setBody [7, 3, 1, 100, 0, 0]))).port.notices = [])
      ∧ (Gives .accountSet town 0x17 (setBody [7, 3, 1, 101, 0, 0]) (.done [])
        ∧ (after .accountSet (ordered town 0x17 (setBody [7, 3, 1, 101, 0, 0]))).port.notices = [.lowBalance 7 100 101])
      ∧ Gives .accountSet town 0x17 (setBody [8, 2, 0, 0, 1, 0]) (.done []) := by decide +kernel

theorem test_AccountState_and_AccountClose :
    Gives .accountState town 0x18 (writeFields [2, 1] [1024, 1]) .badValue
      ∧ Gives .accountState town 0x18 (writeFields [2, 1] [7, 0]) .badValue
      ∧ Gives .accountState town 0x18 (writeFields [2, 1] [7, 3]) .badValue
      ∧ Gives .accountState town 0x18 (writeFields [2, 1] [1023, 1]) .unknown
      ∧ Gives .accountState town 0x18 (writeFields [2, 1] [7, 2]) (.done [])
      ∧ Gives .accountClose town 0x1B (writeFields [2] [1024]) .badValue
      ∧ Gives .accountClose town 0x1B (writeFields [2] [1023]) .unknown
      ∧ (account7.money = .prepaid 100 (some 50) false ∧ Gives .accountClose town 0x1B (writeFields [2] [7]) .state)
      ∧ Gives .accountClose town 0x1B (writeFields [2] [8]) .inUse
      ∧ (account9.subRefs = 0 ∧ account9.livePages = 0 ∧ town.plan 2 = some plan2
        ∧ Gives .accountClose town 0x1B (writeFields [2] [9]) (.done [])) := by decide +kernel

theorem test_AccountAndTariffQueries :
    Gives .accountQuery town 0x1A (writeFields [2] [1024]) .badValue
      ∧ Gives .accountQuery town 0x1A (writeFields [2] [1023]) (.done [0])
      ∧ Gives .accountQuery town 0x1A (writeFields [2] [7])
          (.done
            ([1, 0, 2, 1, 0, 0, 0, 100, 0, 0, 0, 0, 0, 1, 0, 0, 0, 50, 1, 0] ++ List.replicate 18 0 ++ [0, 3, 0, 0, 0, 100]))
      ∧ Gives .accountQuery town 0x1A (writeFields [2] [8])
          (.done
            ([1, 1, 2, 0, 0, 0, 0, 0, 1, 0, 0, 1, 0xF4, 0, 0, 0, 0, 0, 0, 0] ++ List.replicate 18 0 ++ [0, 1, 0, 0, 1, 0xF4]))
      ∧ Gives .tariffQuery town 0x1D (writeFields [1] [32]) .badValue
      ∧ Gives .tariffQuery town 0x1D (writeFields [1] [31]) (.done (List.replicate 22 0))
      ∧ Gives .tariffQuery town 0x1D (writeFields [1] [2])
          (.done [1, 1, 0, 40, 1, 0, 25, 1, 0, 3, 1, 0, 10, 1, 0, 30, 1, 0, 8, 1, 0, 3]) := by decide +kernel

/-- The body of ACCOUNT-CREDIT. -/
def creditBody (a : Nat) (amount : Int) : List Byte := writeFields [2] [a] ++ beSigned 4 amount

theorem test_AccountCredit :
    Gives .accountCredit town 0x19 (creditBody 7 0) .badValue ∧ Gives .accountCredit town 0x19 (creditBody 1024 5) .badValue
      ∧ Gives .accountCredit town 0x19 (creditBody 1023 5) .unknown
      ∧ (account8.money = .postpaid 500 ∧ Gives .accountCredit town 0x19 (creditBody 8 5) .badValue)
      ∧ Gives .accountCredit town 0x19 (creditBody 7 2147483547) (.done [0x7F, 0xFF, 0xFF, 0xFF, 0, 0, 0, 1])
      ∧ Gives .accountCredit town 0x19 (creditBody 7 2147483548) .badValue
      ∧ Gives .accountCredit town 0x19 (creditBody 9 (-2147483648)) (.done [0x80, 0, 0, 0, 0, 0, 0, 1])
      ∧ Gives .accountCredit (withRecords town 2048) 0x19 (creditBody 7 5) .full
      ∧ (Gives .accountCredit town 0x19 (creditBody 7 (-51)) (.done [0, 0, 0, 49, 0, 0, 0, 1])
        ∧ (after .accountCredit (ordered town 0x19 (creditBody 7 (-51)))).port.notices = [.lowBalance 7 49 50])
      ∧ (after .accountCredit (ordered town 0x19 (creditBody 7 (-50)))).port.notices = [] := by decide +kernel

theorem test_TariffDefine_and_PeriodClose :
    Gives .tariffDefine town 0x1C (writeFields [1, 2, 2, 2, 2, 2, 2] [32, 40, 25, 3, 10, 30, 8]) .badValue
      ∧ Gives .tariffDefine town 0x1C (writeFields [1, 2, 2, 2, 2, 2, 2] [31, 40, 25, 3, 10, 30, 26]) .badValue
      ∧ Gives .tariffDefine town 0x1C (writeFields [1, 2, 2, 2, 2, 2, 2] [31, 24, 25, 3, 10, 30, 25]) .badValue
      ∧ (town.plan 2 = some plan2 ∧ Gives .tariffDefine town 0x1C (writeFields [1, 2, 2, 2, 2, 2, 2] [2, 40, 25, 3, 10, 30, 25]) .inUse)
      ∧ Gives .tariffDefine town 0x1C (writeFields [1, 2, 2, 2, 2, 2, 2] [31, 65535, 25, 3, 10, 30, 25]) (.done [])
      ∧ Gives .tariffDefine town 0x1C (writeFields [1, 2, 2, 2, 2, 2, 2] [3, 40, 25, 3, 10, 30, 25]) (.done [])
      ∧ Gives .periodClose town 0x1E (writeFields [2] [1024]) .badValue
      ∧ Gives .periodClose town 0x1E (writeFields [2] [1023]) .unknown
      ∧ Gives .periodClose (withRecords town 2048) 0x1E (writeFields [2] [7]) .full
      ∧ Gives .periodClose (withRecords town 2047) 0x1E (writeFields [2] [7]) (.done (List.replicate 14 0 ++ [0x08, 0x00])) := by
  decide +kernel

/-! ## Journal orders -/

theorem test_JournalFetch_and_JournalStatus :
    Gives .journalFetch town 0x1F (writeFields [1] [0]) .badValue ∧ Gives .journalFetch town 0x1F (writeFields [1] [7]) .badValue
      ∧ Gives .journalFetch town 0x1F (writeFields [1] [1]) (.done [0, 0, 0])
      ∧ Gives .journalFetch (withRecords town 7) 0x1F (writeFields [1] [1])
          (.done [0, 7, 1, 0, 0, 0, 1, 2, 1, 0, 0, 0, 100, 0, 7, 0, 0, 0, 5, 0, 0, 0, 105])
      ∧ (reply .journalFetch (withRecords town 7) 0x1F [6]).map (·.length) = some 124
      ∧ Gives .journalStatus town 0x21 [] (.done [0, 0, 0, 0, 8, 0, 0, 0, 0, 0, 0, 0, 0, 0, 0, 0, 0, 0, 0, 1, 7, 0, 1]) := by
  decide +kernel

theorem test_JournalRelease_and_JournalLevel :
    Gives .journalRelease (withRecords town 7) 0x20 (writeFields [4] [3]) (.done [0, 3, 0, 4, 0x07, 0xFC])
      ∧ Gives .journalRelease (withRecords town 7) 0x20 (writeFields [4] [7]) (.done [0, 7, 0, 0, 8, 0])
      ∧ Gives .journalRelease (withRecords town 7) 0x20 (writeFields [4] [0]) (.done [0, 0, 0, 7, 0x07, 0xF9])
      ∧ Gives .journalRelease (withRecords town 7) 0x20 (writeFields [4] [8]) .badValue
      ∧ ((withRecords town 7).journal.nextSeq - 1 - BitVec.ofNat 32 2147483656).toNat = 2147483647
      ∧ Gives .journalRelease (withRecords town 7) 0x20 (writeFields [4] [2147483656]) (.done [0, 0, 0, 7, 0x07, 0xF9])
      ∧ Gives .journalRelease (withRecords town 7) 0x20 (writeFields [4] [2147483655]) .badValue
      ∧ ((withRecords town 1792).journal.high = true
        ∧ (after .journalRelease (ordered (withRecords town 1792) 0x20 [0, 0, 0, 1])).port.notices
            = [.journalHigh false 1791 1792])
      ∧ Gives .journalLevel town 0x22 (writeFields [2] [0]) .badValue
      ∧ Gives .journalLevel town 0x22 (writeFields [2] [2049]) .badValue
      ∧ Gives .journalLevel town 0x22 (writeFields [2] [2048]) (.done [8, 0, 1])
      ∧ (Gives .journalLevel (withRecords town 7) 0x22 (writeFields [2] [7]) (.done [0, 7, 0])
        ∧ (after .journalLevel (ordered (withRecords town 7) 0x22 [0, 7])).port.notices = [.journalHigh true 7 7]) := by
  decide +kernel

/-! ## Zone and group orders -/

theorem test_ZoneConfig_and_GroupConfig :
    Gives .zoneConfig town 0x23 (writeFields [1, 1, 1, 1] [8, 0, 5, 1]) .badValue
      ∧ Gives .zoneConfig town 0x23 (writeFields [1, 1, 1, 1] [7, 4, 5, 1]) .badValue
      ∧ Gives .zoneConfig town 0x23 (writeFields [1, 1, 1, 1] [7, 3, 6, 1]) .badValue
      ∧ Gives .zoneConfig town 0x23 (writeFields [1, 1, 1, 1] [7, 3, 5, 0]) .badValue
      ∧ Gives .zoneConfig town 0x23 (writeFields [1, 1, 1, 1] [7, 3, 5, 16]) .badValue
      ∧ ((served.zone 3).state ≠ .outOfService ∧ Gives .zoneConfig served 0x23 (writeFields [1, 1, 1, 1] [3, 3, 5, 1]) .state)
      ∧ ((served.zone 7).state = .outOfService
        ∧ Gives .zoneConfig served 0x23 (writeFields [1, 1, 1, 1] [7, 3, 20, 15]) (.done []))
      ∧ Gives .groupConfig town 0x26 (writeFields [1, 1] [4, 0]) .badValue
      ∧ Gives .groupConfig town 0x26 (writeFields [1, 1] [3, 128]) .badValue
      ∧ Gives .groupConfig town 0x26 (writeFields [1, 1] [3, 123]) .badValue
      ∧ ((served.zone 3).homeGroup = 0 ∧ Gives .groupConfig served 0x26 (writeFields [1, 1] [0, 124]) .state)
      ∧ ((∀ z : Zone, (served.zone z).homeGroup = 3 → (served.zone z).state = .outOfService)
        ∧ Gives .groupConfig served 0x26 (writeFields [1, 1] [3, 124]) (.done [])) := by decide +kernel

/-- A site link of the part with its record changed. -/
def withLink (s : State) (z : Zone) (f : LinkRec → LinkRec) : State := s.setLink z (f (s.link z))

/-- A fault condition present and latched. -/
def faulty (s : State) (z : Zone) (k : FaultKind) : State :=
  withLink s z fun l => l.setFault k { l.fault k with present := true, latched := true }

theorem test_ZoneServiceIn :
    Gives .zoneServiceIn town 0x24 (writeFields [1, 1] [8, 0]) .badValue
      ∧ Gives .zoneServiceIn town 0x24 (writeFields [1, 1] [7, 2]) .badValue
      ∧ ((served.zone 3).state ≠ .outOfService ∧ Gives .zoneServiceIn served 0x24 (writeFields [1, 1] [3, 0]) .state)
      ∧ (((faulty town 7 .linkLost).link 7).fault .linkLost = ⟨true, true, true, false⟩
        ∧ Gives .zoneServiceIn (faulty town 7 .linkLost) 0x24 (writeFields [1, 1] [7, 0]) (.done [4]))
      ∧ ((∀ k ∈ allFaultKinds, ((town.link 7).fault k).present = false)
        ∧ Gives .zoneServiceIn town 0x24 (writeFields [1, 1] [7, 0]) (.done [1])
        ∧ ((after .zoneServiceIn (ordered town 0x24 [7, 0])).link 7).settle = some 5000) := by decide +kernel

def ticket5 : Ticket := ⟨5, .normal, 1, false⟩

/-- A page in ATTEMPT with one ticket, which stands in zone 3, in service: queued, in an OPEN batch, or at the site. -/
def attemptTown : State :=
  (busyTown.setStore { busyTown.store with pages := [(5, { page1 with state := .attempt, ticketsOut := 1 })] }).setDispatch
    served.dispatch
def openTown : State := withZone attemptTown 3 fun r => { r with making := some ⟨false, [ticket5], 0, 200, 1000⟩ }
def closedTown : State := withZone attemptTown 3 fun r => { r with making := some ⟨true, [ticket5], 0, 200, 1000⟩ }
def siteTown (onAir : Bool) : State :=
  ((withZone attemptTown 3 fun r => { r with site := some ⟨onAir, [ticket5], 0, 9, some true⟩, nextBatch := 10 }).setGroup 0
      { state := .granted 3, pointer := 3, requests := 0, guardTime := 20 }).setLink 3
    { attemptTown.link 3 with
      st := true, ra := some false, last := some ⟨onAir, onAir, false, false, false, false⟩, resyncPending := false
      batch := if onAir then .onAir else .sent, take := if onAir then none else some 500
      carrier := if onAir then some (true, 1025) else none }

theorem test_ZoneServiceOut :
    Gives .zoneServiceOut town 0x24 (writeFields [1, 1] [8, 1]) .badValue
      ∧ Gives .zoneServiceOut town 0x24 (writeFields [1, 1] [7, 1]) .state
      ∧ Gives .zoneServiceOut (withZone town 7 fun r => { r with state := .draining }) 0x24 (writeFields [1, 1] [7, 1]) .state
      ∧ Gives .zoneServiceOut (withZone town 7 fun r => { r with state := .faulted }) 0x24 (writeFields [1, 1] [7, 1]) (.done [0])
      ∧ Gives .zoneServiceOut served 0x24 (writeFields [1, 1] [3, 1]) (.done [0])
      ∧ (after .zoneServiceOut (ordered served 0x24 [3, 1])).port.notices
          = [.zoneState 3 .inService .draining .order, .zoneState 3 .draining .outOfService .drainCompleted,
              .drainDone 3 .completed 0 0 0]
      ∧ Gives .zoneServiceOut (withZone town 7 fun r => { r with state := .settling }) 0x24 (writeFields [1, 1] [7, 1]) (.done [0])
      ∧ (((siteTown true).zone 3).state = .inService ∧ ((siteTown true).zone 3).site ≠ none
        ∧ Gives .zoneServiceOut (siteTown true) 0x24 (writeFields [1, 1] [3, 1]) (.done [3]))
      ∧ ((openTown.page 5).map (·.aired) = some false ∧ ticketsOf 5 (openTown.zone 3).unsent = 1
        ∧ ((after .zoneServiceOut (ordered openTown 0x24 [3, 1])).page 5).map (·.retryDue) = some (some 210000)) := by
  decide +kernel

/-- A zone in SETTLING is taken out: its page has no ticket left and waits its retry base; with its batch at the site it drains,
unless FWD-POWER-LOW, last reported, is found a take-out condition. -/
theorem test_ZoneServiceOut_settling :
    let settling (s : State) : State := withZone s 3 fun r => { r with state := .settling }
    let low (s : State) : State := withLink s 3 fun l =>
      { l.setFault .fwdPowerLow ⟨false, false, true, false⟩ with
        settle := some 5000, last := some ⟨false, false, false, true, false, false⟩ }
    ((settling openTown).zone 3).state = .settling
      ∧ Gives .zoneServiceOut (settling openTown) 0x24 (writeFields [1, 1] [3, 1]) (.done [0])
      ∧ ((openTown.page 5).map (·.state) = some .attempt ∧ ticketsOf 5 ((settling openTown).zone 3).live = 1
        ∧ ((after .zoneServiceOut (ordered (settling openTown) 0x24 [3, 1])).page 5).map (·.retryDue) = some (some 210000))
      ∧ Gives .zoneServiceOut (settling (siteTown false)) 0x24 (writeFields [1, 1] [3, 1]) (.done [3])
      ∧ ((after .zoneServiceOut (ordered (settling (siteTown false)) 0x24 [3, 1])).page 5).map (·.ticketsOut) = some 1
      ∧ Gives .zoneServiceOut (low (settling (siteTown false))) 0x24 (writeFields [1, 1] [3, 1]) (.done [0])
      ∧ ((after .zoneServiceOut (ordered (low (settling (siteTown false))) 0x24 [3, 1])).page 5).map (·.state)
          = some .retryWait := by decide +kernel

theorem test_ZoneAndGroupQueries :
    (reply .zoneQuery openTown 0x25 [3]).map (fun b => b.take 28) = some ([0, 2, 0, 10, 5] ++ List.replicate 21 0 ++ [1, 0])
      ∧ ((reply .zoneQuery (siteTown true) 0x25 [3]).map fun b => b.drop 36)
          = some [1, 3, 1, 9, 1, 1, 1, 1, 1, 0, 0, 10, 0x07, 0xFF, 0, 0, 0, 0]
      ∧ Gives .zoneQuery town 0x25 (writeFields [1] [8]) .badValue
      ∧ Gives .groupQuery town 0x27 (writeFields [1] [4]) .badValue
      ∧ Gives .groupQuery town 0x27 (writeFields [1] [3]) (.done [0, 0, 0, 0, 0, 0, 0, 0, 0, 0, 0, 0, 0])
      ∧ Gives .groupQuery (siteTown true) 0x27 (writeFields [1] [0])
          (.done
            [20, 1, 1, 3, 1, 3, 1, 9, 0, 0, 3, 8, 0, 0, 1, 0, 2, 0, 3, 2, 4, 0, 5, 0, 6, 0, 7, 0, 0]) := by decide +kernel

/-! ## Orders of the site links -/

theorem test_SiteSettings :
    Gives .linkConfig town 0x28 (writeFields [1, 1] [8, 1]) .badValue ∧ Gives .linkConfig town 0x28 (writeFields [1, 1] [7, 0]) .badValue
      ∧ Gives .linkConfig town 0x28 (writeFields [1, 1] [7, 11]) .badValue
      ∧ Gives .linkConfig town 0x28 (writeFields [1, 1] [7, 10]) (.done [])
      ∧ Gives .faultMask town 0x2A (writeFields [1, 1, 1] [8, 0, 0]) .badValue
      ∧ Gives .faultMask town 0x2A (writeFields [1, 1, 1] [7, 5, 0]) .badValue
      ∧ Gives .faultMask town 0x2A (writeFields [1, 1, 1] [7, 4, 2]) .badValue
      ∧ Gives .faultMask town 0x2A (writeFields [1, 1, 1] [7, 4, 1]) (.done [])
      ∧ Gives .alarmMap town 0x2C (writeFields [1, 1] [2, 0]) .badValue
      ∧ Gives .alarmMap town 0x2C (writeFields [1, 1] [0, 255]) (.done [])
      ∧ (after .alarmMap (ordered (faulty town 7 .siteAlarm) 0x2C [1, 0x10])).sites.alarmB = ⟨0x10, true⟩
      ∧ (after .alarmMap (ordered (faulty town 7 .siteAlarm) 0x2C [1, 0x0F])).sites.alarmB = ⟨0x0F, false⟩ := by decide +kernel

/-- The part with the site alarm of zone 3 a take-out condition, present; the zone FAULTED by it, or in service. -/
def alarmed (state : ZoneState) : State :=
  withLink (withZone town 3 fun r => { r with state := state }) 3 fun l => l.setFault .siteAlarm ⟨true, true, true, false⟩

theorem test_FaultAction :
    Gives .faultAction town 0x29 (writeFields [1, 1, 1] [8, 4, 0]) .badValue
      ∧ Gives .faultAction town 0x29 (writeFields [1, 1, 1] [7, 1, 0]) .badValue
      ∧ Gives .faultAction town 0x29 (writeFields [1, 1, 1] [7, 5, 0]) .badValue
      ∧ Gives .faultAction town 0x29 (writeFields [1, 1, 1] [7, 4, 2]) .badValue
      ∧ (¬ (town.link 7).takeOutPresent ∧ Gives .faultAction town 0x29 (writeFields [1, 1, 1] [7, 4, 1]) (.done []))
      ∧ (((faulty served 3 .siteAlarm).link 3).takeOutPresent = false
        ∧ ((after .faultAction (ordered (faulty served 3 .siteAlarm) 0x29 [3, 4, 1])).zone 3).state = .faulted)
      ∧ (((alarmed .inService).link 3).takeOutPresent = true
        ∧ ((after .faultAction (ordered (alarmed .inService) 0x29 [3, 4, 0])).zone 3).state = .inService)
      ∧ (((alarmed .faulted).link 3).takeOutPresent = true
        ∧ ((after .faultAction (ordered (alarmed .faulted) 0x29 [3, 4, 0])).zone 3).state = .settling) := by decide +kernel

theorem test_FaultClear_and_FaultQuery :
    Gives .faultClear town 0x2B (writeFields [1, 1] [8, 0]) .badValue ∧ Gives .faultClear town 0x2B (writeFields [1, 1] [7, 6]) .badValue
      ∧ Gives .faultClear (faulty town 7 .siteAlarm) 0x2B (writeFields [1, 1] [7, 4]) (.done [1, 0, 1])
      ∧ (Gives .faultClear (withLink town 7 fun l => l.setFault .siteAlarm ⟨false, true, false, false⟩) 0x2B
          (writeFields [1, 1] [7, 5]) (.done [5, 1, 0, 1, 0, 1, 0, 1, 0, 1, 0])
        ∧ (after .faultClear
            (ordered (withLink town 7 fun l => l.setFault .siteAlarm ⟨false, true, false, false⟩) 0x2B [7, 5])).port.notices
              = [.faultChange 7 .siteAlarm false false])
      ∧ Gives .faultQuery town 0x2D (writeFields [1] [8]) .badValue
      ∧ Gives .faultQuery (faulty town 7 .linkLost) 0x2D (writeFields [1] [7])
          (.done
            ([1, 0, 1, 0, 0, 1, 1, 0, 0, 1, 0, 0, 0, 1, 0, 0, 0, 1, 0, 0] ++ List.replicate 7 0 ++ [0, 2, 1, 0, 0, 0]
              ++ List.replicate 21 0)) := by decide +kernel

/-! ## Traffic meters -/

/-- The body of METER-CONFIG, zone 0 with its own pair. -/
def meterBody (e interval weight t h : Nat) : List Byte :=
  writeFields ([1, 1, 1] ++ List.replicate 16 2)
    (e :: interval :: weight :: ((t, h) :: List.replicate 7 (120, 20)).flatMap fun p => [p.1, p.2])

/-- The part with metering enabled, an average of 100 in zone 0, and the zone congested. -/
def metered : State :=
  (town.setMeter { town.meter with enabled := true, timer := some 5000 }).setZoneMeter 0
    { threshold := 120, hysteresis := 20, count := 40, sample := 0, peak := 30, average := 100, congested := true }

theorem test_MeterConfig :
    Gives .meterConfig town 0x2E (meterBody 2 5 3 120 20) .badValue ∧ Gives .meterConfig town 0x2E (meterBody 0 3 3 120 20) .badValue
      ∧ Gives .meterConfig town 0x2E (meterBody 0 5 0 120 20) .badValue
      ∧ Gives .meterConfig town 0x2E (meterBody 0 5 8 120 20) .badValue
      ∧ Gives .meterConfig town 0x2E (meterBody 0 5 3 0 0) .badValue
      ∧ Gives .meterConfig town 0x2E (meterBody 0 5 3 120 120) .badValue
      ∧ (Gives .meterConfig metered 0x2E (meterBody 0 10 7 121 20) (.done [])
        ∧ ((after .meterConfig (ordered metered 0x2E (meterBody 0 10 7 121 20))).zoneMeter 0).congested = false
        ∧ ((after .meterConfig (ordered metered 0x2E (meterBody 0 10 7 120 20))).zoneMeter 0).congested = true)
      ∧ (after .meterConfig (ordered metered 0x2E (meterBody 1 1 1 1 0))).meter.timer = none
      ∧ (after .meterConfig (ordered (inStandby metered) 0x2E (meterBody 0 1 1 65535 65534))).meter.timer = some 5000 := by
  decide +kernel

theorem test_MeterReset_and_MeterRead :
    Gives .meterResetPeak metered 0x2F (writeFields [1, 1] [9, 0]) .badValue
      ∧ Gives .meterResetPeak metered 0x2F (writeFields [1, 1] [8, 2]) .badValue
      ∧ Gives .meterResetAverage metered 0x2F (writeFields [1, 1] [9, 1]) .badValue
      ∧ Gives .meterResetPeak metered 0x2F (writeFields [1, 1] [8, 0]) (.done [])
      ∧ ((after .meterResetPeak (ordered metered 0x2F [0, 0])).zoneMeter 0).peak = 0
      ∧ Gives .meterResetAverage metered 0x2F (writeFields [1, 1] [0, 1]) (.done [])
      ∧ (after .meterResetAverage (ordered metered 0x2F [8, 1])).port.notices = [.congestionChange 0 false 0 120 20]
      ∧ Gives .meterRead metered 0x30 (writeFields [1] [9]) .badValue
      ∧ Gives .meterRead metered 0x30 (writeFields [1] [0])
          (.done [0, 5, 3, 1, 0x13, 0x88, 1, 0, 120, 0, 20, 0, 40, 0, 0, 0, 30, 0, 100, 1])
      ∧ (reply .meterRead metered 0x30 [8]).map (·.length) = some 112 := by decide +kernel

/-- An interval end that zones 1 to 7 have still to take: each takes it as an event of its own, and METER-CONFIG drops what is left. -/
def owingTown : State := after .meterIntervalEnd metered

theorem test_MeterIntervalEnd_zones :
    metered.meter.owing = [] ∧ owingTown.meter.owing = 1 :: [2, 3, 4, 5, 6, 7]
      ∧ (after .meterIntervalEnd owingTown).meter.owing = [2, 3, 4, 5, 6, 7]
      ∧ (after .meterIntervalEnd owingTown).sys = owingTown.sys
      ∧ ((after .meterIntervalEnd (owingTown.setZoneMeter 1 { owingTown.zoneMeter 1 with count := 960 })).zoneMeter 1).average = 120
      ∧ (after .meterIntervalEnd (owingTown.setZoneMeter 1 { owingTown.zoneMeter 1 with count := 960 })).port.notices
          = [.congestionChange 0 false 92 120 20, .congestionChange 1 true 120 120 20]
      ∧ (after .meterConfig (ordered owingTown 0x2E (meterBody 0 10 7 121 20))).meter.owing = []
      ∧ (after .meterConfig (ordered (inStandby owingTown) 0x2E (meterBody 0 10 7 121 20))).meter.owing
          = [1, 2, 3, 4, 5, 6, 7] := by decide +kernel

theorem test_MeterIntervalEnd :
    town.meter.timer = none ∧ after .meterIntervalEnd town = town ∧ metered.meter.timer = some 5000
      ∧ (after .meterIntervalEnd metered).sys.base = 5000
      ∧ (after .meterIntervalEnd metered).meter.timer = some 10000
      ∧ (after .meterIntervalEnd metered).zoneMeter 0
          = { threshold := 120, hysteresis := 20, count := 0, sample := 40, peak := 40, average := 92, congested := false } := by
  decide +kernel

/-! ## Orders of the port, starts and the supply -/

theorem test_Identify_and_ClockOrders :
    Gives .identify town 0x31 []
        (.done [0x0B, 0x4B, 0x45, 0x53, 0x54, 0x52, 0x4F, 0x50, 0x20, 0x38, 0x31, 0x36, 0x01, 0x00, 0x01, 0xC2, 0x00, 1, 0, 1, 0])
      ∧ Gives .clockSet town 0x32 (writeFields [4] [4294967295]) (.done [])
      ∧ (after .clockSet (ordered town 0x32 [0xFF, 0xFF, 0xFF, 0xFF])).sys.clock = some 4294967295000
      ∧ (State.reset.sys.clock = none ∧ Gives .clockRead State.reset 0x33 [] (.done [0, 0, 0, 0, 0, 0, 0, 0]))
      ∧ Gives .clockRead (elapse town 7) 0x33 [] (.done [1, 1, 0, 0, 0, 150, 0, 7]) := by decide +kernel

theorem test_Start :
    Gives .start town 0x34 [] .state ∧ (State.reset.sys.clock = none ∧ Gives .start State.reset 0x34 [] .state)
      ∧ ((inStandby town).port.mode = .standby ∧ (inStandby town).sys.clock ≠ none ∧ Gives .start (inStandby town) 0x34 [] (.done []))
      ∧ (after .start (ordered (inStandby town) 0x34 [])).port.mode = .running
      ∧ ((after .start (ordered (inStandby town) 0x34 [])).line 15).hold = false
      ∧ ((after .start (ordered (inStandby town) 0x34 [])).link 7).silence = some 3000
      ∧ Gives .unknownOrderKind town 0x37 [1, 2] .badForm ∧ Gives .unknownOrderKind town 0x00 [] .badForm
      ∧ Gives .unknownOrderKind town 0xFF [] .badForm := by decide +kernel

/-- START sends POLL on every link, with RESYNC while resync is pending, or leaves it behind a BATCH frame on the line. -/
theorem test_Start_polls :
    ((after .start (ordered (inStandby town) 0x34 [])).link 7).tx = siteFrame 0x02 [0x04]
      ∧ ((after .start (ordered (inStandby town) 0x34 [])).link 7).pollDue = some 200
      ∧ ((after .start
            (ordered (inStandby (withLink town 7 fun l => { l with ra := some true, st := true, resyncPending := false })) 0x34
              [])).link 7).tx = siteFrame 0x02 [0x0B]
      ∧ ((after .start (ordered (inStandby (withLink town 7 fun l => { l with sendingBatch := true })) 0x34 [])).link 7).pollWaiting
          = true := by decide +kernel

theorem test_Restart_and_StoreErase :
    Gives .restart town 0x35 [] (.done []) ∧ (after .restart (ordered town 0x35 [])).port.restart = .arranged
      ∧ Gives .storeErase town 0x36 [] .state
      ∧ (Gives .storeErase (inStandby town) 0x36 [] (.done [])
        ∧ (after .storeErase (ordered (inStandby town) 0x36 [])).dir.subs = []
        ∧ (after .storeErase (ordered (inStandby town) 0x36 [])).sys.clock = some 150000) := by decide +kernel

/-- The part once the answer of a RESTART has been sent. -/
def restarting : State := busyTown.setPort { busyTown.port with restart := .due }

theorem test_Starts :
    town.port.restart ≠ .due ∧ after .restartStart town = town ∧ restarting.port.restart = .due
      ∧ (after .restartStart restarting).sys.lastCause = .restart ∧ (after .restartStart restarting).port.mode = .standby
      ∧ ((after .restartStart restarting).page 5).map (·.state) = some .retryWait
      ∧ (after .resetPin busyTown).sys.lastCause = .reset
      ∧ (after .backupVoltageLow town).sys.retention = false
      ∧ (town.sys.retention = true ∧ (after (.powerUp .r921600 2000) busyTown).sys.clock = some 152000
        ∧ (after (.powerUp .r921600 2000) busyTown).sys.rate = .r921600
        ∧ (after (.powerUp .r921600 2000) busyTown).sys.storeFound = .valid)
      ∧ ((after (.powerUp .r230400 0) (after .backupVoltageLow town)).dir.subs = []
        ∧ (after (.powerUp .r230400 0) (after .backupVoltageLow town)).sys.clock = none
        ∧ (after (.powerUp .r230400 0) (after .backupVoltageLow town)).sys.storeFound = .empty) := by decide +kernel

/-! ## Events of the office link -/

/-- CLOCK-READ with tag 7, and the same with its last byte wrong. -/
def clockFrame : List Byte := officeFrame 0x33 7 []
def wrongFrame : List Byte := clockFrame.dropLast ++ [0x00]

def fullQueue (s : State) (refusals : List Answer) : State :=
  s.setPort
    { s.port with
      orders := List.replicate 4 ⟨0x33, 1, []⟩, refusals := refusals, ready := refusals.map fun _ => .refusal }

theorem test_OfficeFrameReceived :
    clockFrame = [0xA5, 0x00, 0x02, 0x33, 0x07, 0xCA, 0x81] ∧ wrongFrame ≠ clockFrame
      ∧ town.port.rx = .hunt ∧ (after (.officeFrameReceived clockFrame) town).port.orders = [⟨0x33, 7, []⟩]
      ∧ (after (.officeFrameReceived (clockFrame.drop 6))
          (town.setPort { town.port with rx := .frame ((clockFrame.take 6).drop 1) })).port.orders = [⟨0x33, 7, []⟩]
      ∧ (after (.officeFrameReceived clockFrame) (fullQueue town [])).port.refusals = [⟨0xB3, 7, [0x08]⟩]
      ∧ (after (.officeFrameReceived clockFrame) (fullQueue town (List.replicate 4 ⟨0xB3, 1, [0x08]⟩))).port.notices
          = [.frameRejected .overflow]
      ∧ (after (.officeFrameReceived wrongFrame) town).port.notices = [.frameRejected .crc] := by
  decide +kernel

set_option maxRecDepth 20000 in
theorem test_OfficeFrameReceived_longest :
    (after (.officeFrameReceived (officeFrame 0x37 1 (List.replicate 256 0xA5))) town).port.orders.length = 1 := by
  decide +kernel

theorem test_OfficeFrameGap_and_OfficeFrameLength :
    (after (.officeFrameGap (clockFrame.take 1)) town).port.notices = [.frameRejected .gap]
      ∧ (after (.officeFrameGap (clockFrame.take 6)) town).port.notices = [.frameRejected .gap]
      ∧ (after (.officeFrameGap (clockFrame.take 6)) town).sys.base = 51
      ∧ (after (.officeFrameGap [0x00]) town).port.notices = [] ∧ (after (.officeFrameReceived [0x00]) town) = town
      ∧ (after (.officeFrameLength 0x00 0x01) town).port.notices = [.frameRejected .length]
      ∧ (after (.officeFrameLength 0x01 0x03) town).port.notices = [.frameRejected .length]
      ∧ (after (.officeFrameLength 0x01 0x02) town).port.rx = .frame [0x01, 0x02]
      ∧ (after (.officeFrameLength 0x00 0x02) town).port.rx = .frame [0x00, 0x02] := by decide +kernel

/-- The part sending an answer, or a refusal, with a RESTART arranged. -/
def sendingAnswer : State :=
  town.setPort
    { town.port with
      sending := some ⟨.slot, clockFrame⟩, slot := some ⟨0xB5, 7, [0]⟩, ready := [.slot], restart := .arranged }
def sendingRefusal : State :=
  town.setPort
    { town.port with
      sending := some ⟨.refusal, clockFrame⟩, refusals := [⟨0xB5, 7, [8]⟩], ready := [.refusal], linkHold := false }
def freeLine (s : State) : State := s.setPort { s.port with sending := none }

theorem test_AnswerSent_and_NoticeSent :
    (after .answerSent sendingAnswer).port.slot = none ∧ (after .answerSent sendingAnswer).port.restart = .due
      ∧ (after .answerSent sendingRefusal).port.refusals = []
      ∧ (town.port.sending.map (·.claim) = some .notice ∧ (after .noticeSent town).port.sending = none
        ∧ after .answerSent town = town)
      ∧ after .answerSent (freeLine town) = freeLine town ∧ after .noticeSent sendingAnswer = sendingAnswer
      ∧ (after (.linkHoldChange false) town).port.linkHold = false := by decide +kernel

theorem test_TheOutputLine :
    ((pump (freeLine (sendingAnswer.setPort { sendingAnswer.port with restart := .none }))).port.sending.map (·.frame))
        = some (officeFrame 0xB5 7 [0])
      ∧ pump (freeLine sendingRefusal) = freeLine sendingRefusal
      ∧ ((pump ((freeLine sendingRefusal).setPort { (freeLine sendingRefusal).port with linkHold := true })).port.sending.map
          (·.frame)) = some (officeFrame 0xB5 7 [8])
      ∧ (pump (freeLine (raise town (.lineOverrun 3)))).port.notices = []
      ∧ ((pump (freeLine (raise town (.lineOverrun 3)))).port.sending.map (·.frame)) = some (officeFrame 0xC4 0 [3])
      ∧ pump (freeLine town) = freeLine town := by decide +kernel

/-- The bytes of notices, numbers most significant first, and of the frames they stand in. -/
theorem test_NoticeBytes :
    [Notice.frameRejected .overflow, .noticesLost 258, .started .restart .valid true, .lineOverrun 15].map
        (fun n => n.kind :: n.body)
        = [[0xC1, 3], [0xC2, 1, 2], [0xC3, 1, 1, 1], [0xC4, 15]]
      ∧ [Notice.pageOutcome 5 12 (some 20) .undeliverable 40, .lowBalance 7 (-1) 50, .journalHigh true 1792 1792].map
        (fun n => n.kind :: n.body)
        = [[0xC5, 0, 5, 0, 12, 1, 0, 20, 3, 0, 0, 0, 40], [0xC6, 0, 7, 255, 255, 255, 255, 0, 0, 0, 50],
            [0xC7, 0, 7, 0, 7, 0]]
      ∧ [Notice.zoneState 3 .inService .faulted .takeOut, .drainDone 3 .timedOut 1 2 3, .faultChange 7 .siteAlarm true false].map
        (fun n => n.kind :: n.body)
        = [[0xC8, 3, 2, 4, 1], [0xC9, 3, 1, 1, 2, 3], [0xCA, 7, 4, 0, 0]]
      ∧ [Notice.reply 5 12 none 4 7, .lateAck 300012 5 (some 4) 7, .unmatchedAck 300012 5 none 7 (some 13)].map
        (fun n => n.kind :: n.body)
        = [[0xCB, 0, 5, 0, 12, 0, 0, 0, 4, 7], [0xCC, 0x04, 0x93, 0xEC, 0, 5, 1, 1, 4, 7],
            [0xCD, 0x04, 0x93, 0xEC, 0, 5, 0, 0, 0, 7, 1, 0, 13]]
      ∧ [Notice.unmatchedRegister 9 7 (some (13, .numeric)), .unmatchedRegister 9 7 none, .congestionChange 0 true 130 120 20].map
        (fun n => n.kind :: n.body)
        = [[0xCE, 0, 0, 9, 7, 1, 0, 13, 1, 0], [0xCE, 0, 0, 9, 7, 0, 0, 0, 0, 0], [0xCF, 0, 0, 0, 130, 0, 120, 0, 20]]
      ∧ (be 4 16909060 = [1, 2, 3, 4] ∧ beSigned 4 2147483647 = be 4 2147483647
        ∧ beSigned 4 (-2147483648) = be 4 2147483648) := by decide +kernel

theorem test_AnswersOrdered : AnswersOrdered (freeLine sendingAnswer) ∧ AnswersOrdered sendingRefusal := by
  refine ⟨⟨by decide +kernel, by decide +kernel, by decide +kernel, ?_⟩,
    ⟨by decide +kernel, by decide +kernel, by decide +kernel, ?_⟩⟩
  · intro x h
    cases h
  · intro x h _
    cases h
    rfl

/-- The part powered up with LINK-HOLD low, then with the answer of an order waiting. -/
def silentTown : State :=
  let s := after (.powerUp .r115200 0) (after (.linkHoldChange false) town)
  after .clockRead (s.setPort { s.port with orders := [⟨0x33, 7, []⟩] })

theorem test_Silent :
    silentTown.port.silent = true ∧ silentTown.port.ready = [.slot] ∧ silentTown.port.sending = none
      ∧ (after .resetPin silentTown).port.silent = true
      ∧ (after (.linkHoldChange true) silentTown).port.sending = some ⟨.notice, officeFrame 0xC3 0 [0, 1, 1]⟩
      ∧ (after (.linkHoldChange true) silentTown).port.silent = false
      ∧ ((after .noticeSent (after (.linkHoldChange true) silentTown)).port.sending.map (·.claim)) = some .slot
      ∧ (after (.powerUp .r230400 0) (after .backupVoltageLow (after (.linkHoldChange false) town))).port.silent = true
      ∧ State.reset.port.silent = false := by decide +kernel

theorem test_Silent_law : SilentLaw silentTown ∧ AnswersOrdered silentTown ∧ SilentLaw town := by
  refine ⟨fun _ => ⟨by decide +kernel, .powerUp, .valid, true, by decide +kernel⟩,
    ⟨by decide +kernel, by decide +kernel, by decide +kernel, fun x h => ?_⟩, fun h => ?_⟩
  · have k : silentTown.port.sending = none := by decide +kernel
    rw [k] at h
    cases h
  · cases h

/-- The part with some notices waiting and some lost. -/
def noticed (waiting lost : Nat) : State :=
  town.setPort { town.port with notices := List.replicate waiting (.lineOverrun 0), lost := lost }

theorem test_NoticesAreBounded :
    (raise (noticed 63 0) (.lineOverrun 1)).port.notices.length = 64 ∧ (raise (noticed 64 0) (.lineOverrun 1)).port.lost = 1
      ∧ (raise (noticed 62 9) (.lineOverrun 1)).port.notices.drop 62 = [.noticesLost 9, .lineOverrun 1]
      ∧ (raise (noticed 63 9) (.lineOverrun 1)).port.lost = 10
      ∧ (raise (noticed 64 65535) (.lineOverrun 1)).port.lost = 65535 := by decide +kernel

/-! ## Intake lines -/

/-- Line 4 with a byte in its ring. -/
def typing (c : Byte) (f : Line → Line) : State :=
  withLine town 4 fun l => f { l with ring := [(c, false)], written := 1 }

theorem test_typing_consumable (c : Byte) : Consumable (typing c id) 4 c false := ⟨rfl, rfl, rfl, rfl⟩

theorem test_LineByteReceived :
    (after (.lineByteReceived 4 0x31 true) town).intake = town.intake
      ∧ after (.lineByteReceived 4 0x31 false) (inStandby town) = inStandby town
      ∧ ((after (.lineByteReceived 4 0x31 false) (typing 0x30 id)).line 4).ring = [(0x30, false), (0x31, false)]
      ∧ ((after (.lineByteReceived 15 0x31 false)
          (withLine town 15 fun l => { l with ring := List.replicate 409 (0x30, false), written := 409, hold := false })).line 15).hold
          = true
      ∧ ((after (.lineByteReceived 15 0x31 false)
          (withLine town 15 fun l => { l with ring := List.replicate 408 (0x30, false), written := 408, hold := false })).line 15).hold
          = false
      ∧ (after (.lineByteReceived 15 0x31 false)
          (withLine town 15 fun l => { l with ring := List.replicate 512 (0x30, false), written := 512 })).port.notices
          = [.lineOverrun 15] := by decide +kernel

theorem test_LineOpen_and_LineClose :
    (∀ mark, Consumable (typing 0x11 id) 4 0x11 mark → mark = false)
      ∧ ((after (.lineOpen 4) (typing 0x11 id)).line 4).prompt = some .n
      ∧ ((after (.lineOpen 4) (typing 0x11 id)).line 4).asm = .awaitNumber
      ∧ ((after (.lineClose 4) (typing 0x12 fun l => { l with asm := .skip })).line 4).asm = .closed
      ∧ after (.lineOpen 4) (typing 0x12 id) = typing 0x12 id ∧ after (.lineClose 4) (typing 0x11 id) = typing 0x11 id
      ∧ after (.lineCharacterConsumed 4) (typing 0x11 id) = typing 0x11 id := by
  refine ⟨?_, by decide +kernel⟩
  intro mark h
  have := h.2.2.2
  simpa [typing, withLine, State.line, State.setLine, State.setIntake] using this.symm

/-- The tokens of prompts, and TXD with a prompt in progress and after it. -/
theorem test_Tokens :
    Prompt.token (.a 123 16) = [0x41, 0x20, 0x30, 0x30, 0x31, 0x32, 0x33, 0x20, 0x31, 0x36, 0x0D]
      ∧ Prompt.token (.a 65535 1) = [0x41, 0x20, 0x36, 0x35, 0x35, 0x33, 0x35, 0x20, 0x31, 0x0D]
      ∧ Prompt.token (.e .e07) = [0x45, 0x20, 0x30, 0x37, 0x0D] ∧ Prompt.token (.e .e13) = [0x45, 0x20, 0x31, 0x33, 0x0D]
      ∧ ((after (.lineOpen 4) (typing 0x11 id)).line 4).txd = [0x4E, 0x0D]
      ∧ ((after (.promptSent 4) (after (.lineOpen 4) (typing 0x11 id))).line 4).txd = [] := by decide +kernel

/-- Line 4 after it has consumed its byte. -/
def consumed (c : Byte) (f : Line → Line) : Line := (after (.lineCharacterConsumed 4) (typing c f)).line 4

theorem test_NumberStage :
    (consumed 0x31 fun l => { l with asm := .closed }).asm = .closed
      ∧ (consumed 0x0D fun l => { l with cls := .console, asm := .awaitNumber }).asm = .awaitNumber
      ∧ (consumed 0x31 fun l => { l with asm := .skip }).asm = .skip
      ∧ (consumed 0x23 fun l => { l with asm := .skip }).asm = .awaitNumber
      ∧ (consumed 0x31 fun l => { l with asm := .awaitNumber }).asm = .number [0x31]
      ∧ (consumed 0x2A fun l => { l with asm := .number (List.replicate 15 0x30) }).asm = .number (List.replicate 15 0x30 ++ [0x2A])
      ∧ (consumed 0x39 fun l => { l with asm := .number (List.replicate 16 0x30) }).prompt = some (.e .e13)
      ∧ (consumed 0x41 fun l => { l with asm := .number [] }).prompt = some (.e .e13) := by decide +kernel

/-- 5550012, **0013 and 5550014 as keyed. -/
def keyed12 : List Byte := [0x35, 0x35, 0x35, 0x30, 0x30, 0x31, 0x32]
def keyed13 : List Byte := [0x2A, 0x2A, 0x30, 0x30, 0x31, 0x33]
def keyed14 : List Byte := [0x35, 0x35, 0x35, 0x30, 0x30, 0x31, 0x34]

theorem test_NumberChecks :
    readNumber [] = none ∧ (consumed 0x23 fun l => { l with asm := .awaitNumber }).prompt = some (.e .e01)
      ∧ readNumber keyed12 = some ⟨.number 5550012, false, false, false⟩
      ∧ (consumed 0x23 fun l => { l with asm := .number (keyed12.dropLast ++ [0x39]) }).prompt = some (.e .e01)
      ∧ (consumed 0x23 fun l => { l with asm := .number keyed14 }).prompt = some (.e .e02)
      ∧ (consumed 0x23 fun l => { l with asm := .number keyed13 }).prompt = some (.e .e04)
      ∧ (consumed 0x23 fun l => { l with asm := .number (keyed12 ++ [0x2A, 0x31]) }).prompt = some (.e .e04)
      ∧ (consumed 0x23 fun l => { l with asm := .number keyed12 }).asm = .awaitBody ⟨12, .normal, false, 240⟩
      ∧ (consumed 0x23 fun l => { l with cls := .console, asm := .number (keyed13 ++ [0x2A, 0x39, 0x2A, 0x32]) }).asm
          = .awaitBody ⟨13, .emergency, true, 40⟩ := by decide +kernel

/-- Line 4 with the # of the number of subscriber 12, in a part whose directory or accounts are changed. -/
def atNumberSign (f : State → State) : Option Prompt :=
  ((after (.lineCharacterConsumed 4) (f (typing 0x23 fun l => { l with asm := .number keyed12 }))).line 4).prompt

theorem test_NumberChecks_otherCodes :
    (atNumberSign fun s => s.setDir { s.dir with subs := [(12, { sub20 with body := .group [14] }), (14, sub14)] }) = some (.e .e12)
      ∧ (atNumberSign fun s => s.setDir { s.dir with subs := [(12, { sub12 with account := 9 })] }) = some (.e .e03) := by
  decide +kernel

theorem test_Grammar :
    readNumber (keyed12 ++ [0x2A, 0x31, 0x2A, 0x39]) = some ⟨.number 5550012, true, false, true⟩
      ∧ readNumber ([0x2A, 0x2A, 0x34, 0x30, 0x39, 0x35] ++ [0x2A, 0x32]) = some ⟨.index 4095, false, true, false⟩
      ∧ readNumber [0x2A, 0x2A, 0x34, 0x30, 0x39, 0x36] = none
      ∧ readNumber (keyed12 ++ [0x2A, 0x31, 0x2A, 0x32]) = none ∧ readNumber (keyed12 ++ [0x2A, 0x31, 0x2A, 0x31]) = none := by
  decide +kernel

theorem test_Expansion :
    expandBody phrased.intake.phrases 40 [0x41, 0x2A, 0x39, 0x39, 0x2A, 0x5F] = .ok [0x41, 0x44, 0x45, 0x20]
      ∧ expandBody phrased.intake.phrases 2 [0x41, 0x2A, 0x39, 0x39] = .error .e07
      ∧ expandBody phrased.intake.phrases 40 [0x2A, 0x30, 0x30] = .error .e05
      ∧ expandBody [(0, [0x2A, 0x30, 0x31]), (1, [0x2A, 0x30, 0x32])] 40 [0x2A, 0x30, 0x30] = .error .e06 :=
  ⟨rfl, rfl, rfl, rfl⟩

/-- Each kind of character behind a text that is plain, behind a * and behind a first digit. -/
theorem test_Escapes :
    [[0x41], [0x2A], [0x2A, 0x2A], [0x2A, 0x39], [0x2A, 0x41], [0x2A, 0x39, 0x39], [0x2A, 0x39, 0x2A], [0x2A, 0x41, 0x41]].map
        escapeState
      = [some .plain, some .star, some .plain, some .digit, none, some .plain, none, none] := by decide +kernel

def head12 : EntryHead := ⟨12, .normal, false, 240⟩

theorem test_BodyStage :
    escapeState [0x2A] = some .star ∧ escapeState [0x2A, 0x30] = some .digit
      ∧ (consumed 0x31 fun l => { l with asm := .awaitBody head12 }).asm = .body head12 [0x31]
      ∧ (consumed 0x41 fun l => { l with cls := .console, asm := .awaitBody head12 }).asm = .body head12 [0x41]
      ∧ (consumed 0x41 fun l => { l with asm := .awaitBody head12 }).prompt = some (.e .e13)
      ∧ (consumed 0x23 fun l => { l with asm := .body head12 [0x2A] }).asm = .body head12 [0x2A, 0x23]
      ∧ (consumed 0x2A fun l => { l with asm := .body head12 [0x2A, 0x30] }).prompt = some (.e .e13)
      ∧ (consumed 0x31 fun l => { l with asm := .body head12 (List.replicate 479 0x31) }).asm
          = .body head12 (List.replicate 479 0x31 ++ [0x31])
      ∧ (consumed 0x31 fun l => { l with asm := .body head12 (List.replicate 480 0x31) }).prompt = some (.e .e07) := by decide +kernel

/-- Line 4 with the # of an entry, in a part that is changed. -/
def atBodyEnd (cls : LineClass) (raw : List Byte) (f : State → State) : State :=
  after (.lineCharacterConsumed 4) (f (typing 0x23 fun l => { l with cls := cls, asm := .body head12 raw }))

theorem test_EntriesEnd :
    ((after (.lineCharacterConsumed 4) (typing 0x23 fun l => { l with overrunLatch := true, asm := .awaitBody head12 })).line 4).prompt
        = some (.e .e11)
      ∧ ((atBodyEnd .caller [0x2A, 0x30, 0x30] id).line 4).prompt = some (.e .e05)
      ∧ ((atBodyEnd .caller [] id).line 4).prompt = some (.a 1 1)
      ∧ ((atBodyEnd .caller [] fun s => withRecords s 2048).line 4).prompt = some (.e .e09)
      ∧ ((atBodyEnd .console [] fun s => withRecords s 2048).line 4).waitLimit = some 30000
      ∧ (atBodyEnd .console [] fun s => withRecords s 2048).intake.waitList = [4]
      ∧ ((atBodyEnd .console [] fun s => s.setDir { s.dir with subs := [] }).line 4).prompt = some (.e .e02) := by decide +kernel

/-- Line 4 in the wait list, with room announced, in a part with a number of records. -/
def waiting (announcements records : Nat) : State :=
  let s := withRecords town records
  (s.setIntake { s.intake with waitList := [4], announcements := announcements }).setLine 4
    { s.line 4 with cls := .console, asm := .admitWait head12 .tone [], waitLimit := some 30000 }

theorem test_LineTimers_and_WaitList :
    town.line 4 = { town.line 4 with prompt := none, txd := [] } ∧ after (.promptSent 4) town = town
      ∧ ((after (.promptSent 4) (withLine town 4 fun l => { l with prompt := some .n, asm := .awaitNumber })).line 4).timer = some 30000
      ∧ ((after (.promptSent 4) (withLine town 4 fun l => { l with prompt := some .n, asm := .awaitNumber, paused := true })).line 4).timer
          = none
      ∧ ((after (.entryTimeout 4) (withLine town 4 fun l => { l with timer := some 900, asm := .number [] })).line 4).prompt = some .t
      ∧ ((after (.idleTimeout 4) (withLine town 4 fun l => { l with timer := some 900, asm := .awaitNumber })).line 4).prompt = some .x
      ∧ after (.entryTimeout 4) town = town ∧ after (.idleTimeout 4) town = town
      ∧ ((after .admitWaitRetry (waiting 1 0)).line 4).prompt = some (.a 1 1)
      ∧ (after .admitWaitRetry (waiting 1 2048)).intake.announcements = 0
      ∧ (after .admitWaitRetry (waiting 1 2048)).intake.waitList = [4]
      ∧ ((after .admitWaitRetry ((waiting 1 0).setDir { town.dir with subs := [] })).line 4).prompt = some (.e .e02)
      ∧ after .admitWaitRetry (waiting 0 0) = waiting 0 0 ∧ after (.admitWaitLimit 4) town = town
      ∧ ((after (.admitWaitLimit 4) (waiting 0 0)).line 4).prompt = some (.e .e09) := by decide +kernel

/-! ## The hypothesis that a state keeps the law of the channel -/

/-- A check of the law, zone by zone and group by group. -/
def channelKept (s : State) : Bool :=
  allZones.all (fun z =>
      (decide ((s.zone z).site = none) || decide ((s.group (s.zone z).homeGroup).state = .granted z))
        && match (s.zone z).making with
          | some b => b.closed || (s.zone z).queued.isEmpty
          | none => true)
    && (List.finRange 4).all fun g =>
      (decide ((s.group g).state ≠ .free) || decide ((s.group g).requests = 0))
        && allZones.all fun z =>
          !ZoneSet.mem (s.group g).requests z
            || (decide ((s.zone z).homeGroup = g) && match (s.zone z).making with | some b => b.closed | none => false)

theorem test_channelKept {s : State} (h : channelKept s = true) : ChannelLaw s := by
  simp only [channelKept, Bool.and_eq_true, List.all_eq_true, Bool.or_eq_true, decide_eq_true_eq, Bool.not_eq_true'] at h
  have every : ∀ z : Zone, z ∈ allZones := List.mem_finRange
  refine ⟨fun z apart => ((h.1 z (every z)).1).resolve_left apart, ?_, ?_, ?_⟩
  · intro g z asks
    have k := (h.2 g (List.mem_finRange g)).2 z (every z)
    rw [asks] at k
    obtain ⟨home, closed⟩ := k.resolve_left (by decide)
    refine ⟨home, ?_⟩
    revert closed
    cases m : (s.zone z).making with
    | none => simp
    | some b => exact fun c => ⟨b, rfl, c⟩
  · exact fun g free => ((h.2 g (List.mem_finRange g)).1).resolve_left (fun k => k free)
  · intro z b m opened
    have k := (h.1 z (every z)).2
    rw [m] at k
    simpa [opened] using k

/-- The law the first attempts of admitted pages rest on, and the stage, tickets and due time they leave. -/
theorem test_PageSubmit_attempts :
    (ChannelLaw town ∧ ChannelLaw served)
      ∧ ((after .pageSubmit (ordered served 0x11 (submitBody 12 3 0 []))).page 1).map (fun p => (p.stage, p.ticketsOut))
          = some (0, 1)
      ∧ ((after .pageSubmit (ordered served 0x11 (submitBody 12 3 0 []))).zone 3).live.map (·.reference) = [1]
      ∧ ((after .pageSubmit (ordered town 0x11 (submitBody 20 3 1 [0x31]))).page 2).map (·.stage) = some 1
      ∧ ((after .pageSubmit (ordered town 0x11 (submitBody 12 3 0 []))).sched.retryDue).map (·.2) = [1] :=
  ⟨⟨test_channelKept (by decide +kernel), test_channelKept (by decide +kernel)⟩, by decide +kernel⟩

/-! ## Checks of the laws -/

/-- A key that a short table holds is one of its keys. -/
theorem test_get_mem {α : Type} (t : Table α) (k : Nat) (v : α) (h : Table.get t k = some v) : (k, v) ∈ t := by
  induction t with
  | nil => cases h
  | cons e rest ih =>
    obtain ⟨k', v'⟩ := e
    unfold Table.get at h
    split at h
    · next same => cases h; exact same ▸ List.mem_cons_self
    · exact List.mem_cons_of_mem _ (ih h)

theorem test_takeOutAt (s : State) (z : Zone) : TakeOutAt s z ↔ (s.link z).takeOutPresent = true := by
  simp only [TakeOutAt, LinkRec.takeOutPresent, List.any_eq_true, Bool.and_eq_true]
  exact ⟨fun ⟨k, h⟩ => ⟨k, by cases k <;> decide, h⟩, fun ⟨k, _, h⟩ => ⟨k, h⟩⟩

/-- A check of the law of the fault kinds. -/
def faultsKept (s : State) : Bool :=
  allZones.all fun z =>
    let l := s.link z
    (l.fault .linkLost).takeOut && (l.fault .carrierStuck).takeOut
      && (match (s.zone z).state with
          | .inService | .settling | .draining => !l.takeOutPresent
          | .faulted => l.takeOutPresent
          | .outOfService => true)
      && (decide ((s.zone z).state ≠ .settling) || !(l.fault .fwdPowerLow).present)
      && (!(l.fault .carrierStuck).present || l.carrier.isNone)

theorem test_faultsKept {s : State} (h : faultsKept s = true) : FaultsLaw s := by
  intro z
  have k := List.all_eq_true.1 h z (List.mem_finRange z)
  simp only [Bool.and_eq_true] at k
  obtain ⟨⟨⟨⟨a, b⟩, c⟩, d⟩, e⟩ := k
  simp only [test_takeOutAt]
  refine ⟨a, b, ?_, ?_, ?_, ?_⟩
  · rintro (x | x | x) <;> rw [x] at c <;> simpa using c
  · intro x
    rw [x] at c
    exact c
  · intro x
    simpa [x] using d
  · intro x
    simpa [x] using e

/-- A check of the law of the links. -/
def linksKept (s : State) : Bool :=
  allZones.all fun z =>
    let l := s.link z
    (match l.batch, (s.zone z).site with
      | .none, none => true
      | .withheld entries, some b =>
        l.resyncPending && !b.onAir && b.toggle.isNone
          && decide (entries.map (·.reference) = b.tickets.map (·.reference))
      | .sent, some b => !b.onAir && decide (b.toggle = some l.st)
      | .onAir, some b => b.onAir && decide (b.toggle = some l.st)
      | _, _ => false)
      && (l.take.isNone || decide (l.batch = .sent))
      && (decide (s.port.mode ≠ .standby)
          || (decide (l = { LinkRec.initial with window := l.window, faults := l.faults })
            && (s.zone z).making.isNone && (s.zone z).queued.isEmpty))

theorem test_linksKept {s : State} (h : linksKept s = true) : LinksLaw s := by
  intro z
  have k := List.all_eq_true.1 h z (List.mem_finRange z)
  simp only [Bool.and_eq_true] at k
  obtain ⟨⟨a, b⟩, c⟩ := k
  refine ⟨?_, ?_, ?_⟩
  · revert a
    cases (s.link z).batch <;> cases (s.zone z).site <;> simp
    intro a b c d
    exact ⟨a, b, c, d⟩
  · intro apart
    cases t : (s.link z).take with
    | none => exact absurd t apart
    | some x => simpa [t] using b
  · intro standby
    simpa [standby, and_assoc] using c

/-- A check of the law of the alarm outputs. -/
def alarmsKept (s : State) : Bool :=
  let asked (map : BitVec 6) : Bool :=
    (allZones.any fun z => allFaultKinds.any fun k => map.getLsbD k.code.toNat && ((s.link z).fault k).latched)
      || (map.getLsbD 5 && s.journal.high)
  (s.sites.alarmA.asserted == asked s.sites.alarmA.map) && (s.sites.alarmB.asserted == asked s.sites.alarmB.map)

theorem test_alarmsKept {s : State} (h : alarmsKept s = true) : AlarmsLaw s := by
  simp only [alarmsKept, Bool.and_eq_true, beq_iff_eq] at h
  have asked (map : BitVec 6) :
      ((allZones.any fun z => allFaultKinds.any fun k => map.getLsbD k.code.toNat && ((s.link z).fault k).latched)
          || (map.getLsbD 5 && s.journal.high)) = true
        ↔ (∃ (z : Zone) (k : FaultKind), map.getLsbD k.code.toNat = true ∧ ((s.link z).fault k).latched = true)
          ∨ (map.getLsbD 5 = true ∧ s.journal.high = true) := by
    simp only [Bool.or_eq_true, List.any_eq_true, Bool.and_eq_true]
    refine or_congr ⟨fun ⟨z, _, k, _, x⟩ => ⟨z, k, x⟩, fun ⟨z, k, x⟩ => ⟨z, List.mem_finRange z, k, ?_, x⟩⟩ Iff.rfl
    cases k <;> decide
  exact ⟨by rw [h.1]; exact asked _, by rw [h.2]; exact asked _⟩

/-- A check that a list of the scheduler holds exactly the pages with a time. -/
def listKept (s : State) (l : List (Nat × Nat)) (time : Page → Option Nat) : Bool :=
  l.all (fun e => match s.page e.2 with | some p => decide (time p = some e.1) | none => false)
    && s.store.pages.all (fun e => match time e.2 with | some t => decide ((t, e.1) ∈ l) | none => true)
    && decide (l.Pairwise fun a b => a.1 ≤ b.1) && decide (l.map Prod.snd).Nodup

theorem test_listKept {s : State} {l : List (Nat × Nat)} {time : Page → Option Nat} (h : listKept s l time = true) :
    ListHolds s l time := by
  simp only [listKept, Bool.and_eq_true, List.all_eq_true, decide_eq_true_eq] at h
  obtain ⟨⟨⟨a, b⟩, c⟩, d⟩ := h
  refine ⟨fun e => ⟨fun m => ?_, ?_⟩, c, d⟩
  · have k := a e m
    revert k
    cases s.page e.2 with
    | none => simp
    | some p => exact fun k => ⟨p, rfl, by simpa using k⟩
  · rintro ⟨p, found, t⟩
    have k := b _ (test_get_mem _ _ _ found)
    simpa [t] using k

/-- An index is that of a pager. -/
def isPager (s : State) (i : Nat) : Bool :=
  match s.sub i with
  | none => false
  | some u =>
    match u.body with
    | .pager _ => true
    | .group _ => false

/-- A check of the law of the lists. -/
def listsKept (s : State) : Bool :=
  decide (Table.wf s.store.mailboxes) && listKept s s.sched.retryDue (fun p => if p.state = .retryWait then p.retryDue else none)
    && listKept s s.sched.ackDeadline (fun p => if p.state = .awaitAck then p.ackDeadline else none)
    && listKept s s.sched.expiry (fun p => some (p.expiry * 1000))
    && s.store.pages.all (fun e =>
      (decide (e.2.state ≠ .retryWait) || e.2.retryDue.isSome) && (decide (e.2.state ≠ .awaitAck) || e.2.ackDeadline.isSome)
        && isPager s e.2.subscriber
        && (decide (e.2.state ≠ .waitTicket) || decide (e.1 ∈ s.dispatch.ticketWait))
        && (decide (e.2.state ≠ .held) || decide (e.1 ∈ s.mailbox e.2.subscriber)))
    && decide s.dispatch.ticketWait.Nodup
    && s.dispatch.ticketWait.all (fun r => match s.page r with | some p => decide (p.state = .waitTicket) | none => false)
    && s.store.mailboxes.all fun e =>
      !e.2.isEmpty && decide (e.2.length ≤ 8) && decide e.2.Nodup
        && e.2.all fun r => match s.page r with | some p => decide (p.state = .held ∧ p.subscriber = e.1) | none => false

theorem test_listsKept {s : State} (h : listsKept s = true) : ListsLaw s := by
  simp only [listsKept, Bool.and_eq_true, decide_eq_true_eq] at h
  obtain ⟨⟨⟨⟨⟨⟨⟨wf, a⟩, b⟩, c⟩, d⟩, e⟩, f⟩, g⟩ := h
  simp only [List.all_eq_true, Bool.and_eq_true, decide_eq_true_eq, Bool.or_eq_true] at d f g
  have box : ∀ i l, Table.get s.store.mailboxes i = some l → s.mailbox i = l := by
    intro i l m
    simp [State.mailbox, m]
  have none_box : ∀ i, Table.get s.store.mailboxes i = none → s.mailbox i = [] := by
    intro i m
    simp [State.mailbox, m]
  refine ⟨test_listKept a, test_listKept b, test_listKept c, ?_, e, ?_, wf, ?_, ?_, ?_⟩
  · intro r p found
    obtain ⟨⟨⟨⟨x, y⟩, w⟩, _⟩, _⟩ := d _ (test_get_mem _ _ _ found)
    refine ⟨fun k => ?_, fun k => ?_, ?_⟩
    · simpa [Option.isSome_iff_ne_none] using x.resolve_left (by simpa using k)
    · simpa [Option.isSome_iff_ne_none] using y.resolve_left (by simpa using k)
    · revert w
      unfold isPager
      cases s.sub p.subscriber with
      | none => simp
      | some u =>
        obtain ⟨st, ac, cl, body⟩ := u
        cases body with
        | pager q => exact fun _ => ⟨_, q, rfl, rfl⟩
        | group _ => simp
  · intro r
    refine ⟨fun m => ?_, ?_⟩
    · have k := f r m
      revert k
      cases s.page r with
      | none => simp
      | some p => exact fun k => ⟨p, rfl, by simpa using k⟩
    · rintro ⟨p, found, k⟩
      exact ((d _ (test_get_mem _ _ _ found)).1.2).resolve_left (by simpa using k)
  · intro i m
    have k := (g _ (test_get_mem _ _ _ m)).1.1.1
    simp at k
  · intro i
    cases m : Table.get s.store.mailboxes i with
    | none => simp [none_box i m]
    | some l => exact box i l m ▸ ⟨(g _ (test_get_mem _ _ _ m)).1.1.2, (g _ (test_get_mem _ _ _ m)).1.2⟩
  · intro i r
    constructor
    · cases m : Table.get s.store.mailboxes i with
      | none => simp [none_box i m]
      | some l =>
        rw [box i l m]
        intro mem
        have k := (g _ (test_get_mem _ _ _ m)).2 r mem
        revert k
        cases s.page r with
        | none => simp
        | some p => exact fun k => ⟨p, rfl, by simpa using k⟩
    · rintro ⟨p, found, k, rfl⟩
      exact ((d _ (test_get_mem _ _ _ found)).2).resolve_left (by simpa using k)

/-- A check of the law of the tickets and their pages. -/
def ticketPagesKept (s : State) : Bool :=
  allZones.all (fun z =>
      (s.zone z).live.all (fun k =>
        (if k.orphan then decide (k ∈ (s.zone z).atSite) && (s.page k.reference).isNone
          else match s.page k.reference with | some p => decide (p.state = .attempt) | none => false)
          && decide (ticketsOf k.reference (s.zone z).live ≤ 1))
        && (s.zone z).unsent.all fun k => !k.orphan)
    && s.store.pages.all fun e =>
      if e.2.state = .attempt then
        decide (0 < e.2.ticketsOut ∧ e.2.ticketsOut = (allZones.map fun z => ticketsOf e.1 (s.zone z).live).sum)
      else decide (e.2.ticketsOut = 0)

theorem test_ticketPagesKept {s : State} (h : ticketPagesKept s = true) : TicketPagesLaw s := by
  simp only [ticketPagesKept, Bool.and_eq_true, List.all_eq_true, decide_eq_true_eq] at h
  obtain ⟨a, b⟩ := h
  refine ⟨fun z k m alive => ?_, fun z k m orphan => ?_, fun z k m => ?_, fun z r => ?_, fun r p found => ?_⟩
  · have x := ((a z (List.mem_finRange z)).1 k m).1
    rw [alive] at x
    revert x
    cases s.page k.reference with
    | none => simp
    | some p => exact fun x => ⟨p, rfl, by simpa using x⟩
  · have x := ((a z (List.mem_finRange z)).1 k m).1
    simpa [orphan] using x
  · simpa using (a z (List.mem_finRange z)).2 k m
  · rcases Nat.eq_zero_or_pos (ticketsOf r (s.zone z).live) with none | some
    · omega
    · obtain ⟨k, m⟩ := List.exists_mem_of_length_pos some
      simp only [List.mem_filter, Bool.and_eq_true, beq_iff_eq] at m
      exact m.2.1 ▸ ((a z (List.mem_finRange z)).1 k m.1).2
  · have x := b _ (test_get_mem _ _ _ found)
    refine ⟨fun k => ?_, fun k => ?_⟩
    · simpa [k] using x
    · simpa [k] using x

/-- The laws that the statements about lists, tickets and links rest on. -/
abbrev Kept (s : State) : Prop :=
  SlotLaw s ∧ TicketsLaw s ∧ ListsLaw s ∧ ZonesLaw s ∧ ChannelLaw s ∧ TicketPagesLaw s ∧ LinksLaw s ∧ FaultsLaw s

theorem test_kept {s : State} (zones : ZonesLaw s)
    (h : (decide (Table.wf s.store.pages) && decide (s.store.pages.length ≤ 1024) && decide (s.journal.records.length + s.store.pages.length ≤ 2048)
        && decide (s.liveTickets.length ≤ 2048) && listsKept s && channelKept s && ticketPagesKept s && linksKept s
        && faultsKept s) = true) : Kept s := by
  simp only [Bool.and_eq_true, decide_eq_true_eq] at h
  obtain ⟨⟨⟨⟨⟨⟨⟨⟨pages, a⟩, b⟩, c⟩, d⟩, e⟩, f⟩, g⟩, k⟩ := h
  exact ⟨⟨pages, a, b⟩, c, test_listsKept d, zones, test_channelKept e, test_ticketPagesKept f, test_linksKept g,
    test_faultsKept k⟩

/-! ## Events of pages and reports -/

/-- One page in a state, in a part with zone 3 in service, and the list the state has it in. -/
def withPage (p : Page) (f : Scheduler → Scheduler) : State :=
  let s := busyTown.setStore { busyTown.store with pages := [(5, p)] }
  (s.setDispatch served.dispatch).setSched (f s.sched)

def retryTown : State :=
  withPage { page1 with state := .retryWait, retryDue := some 160000 } fun c => { c with retryDue := [(160000, 5)] }

def waitTown : State := (withPage page1 id).setDispatch { served.dispatch with ticketWait := [5] }

theorem test_AttemptsStart :
    ChannelLaw retryTown ∧ ChannelLaw waitTown
      ∧ (retryTown.sched.retryDue = (160000, 5) :: [] ∧ retryTown.page 5 ≠ none ∧ retryTown.sub 12 = some sub12
        ∧ (after .retryDue retryTown).sys.clock = some 160000
        ∧ ((after .retryDue retryTown).page 5).map (·.ticketsOut) = some 1
        ∧ ((after .retryDue retryTown).zone 3).making.isSome)
      ∧ after .retryDue town = town ∧ after .retryDue (inStandby retryTown) = inStandby retryTown
      ∧ after .ticketWaitService town = town ∧ waitTown.dispatch.ticketWait = [5] ∧ waitTown.liveTickets.length = 0
      ∧ ((after .ticketWaitService waitTown).page 5).map (·.state) = some .attempt
      ∧ (after .ticketWaitService waitTown).dispatch.ticketWait = [] :=
  ⟨test_channelKept (by decide +kernel), test_channelKept (by decide +kernel), by decide +kernel⟩

/-- A page that awaits its acknowledgement after a number of attempts, and its expiry. -/
def ackTown (attempts : Nat) : State :=
  withPage { page1 with state := .awaitAck, attempts := attempts, transmissions := 1, ackDeadline := some 150000 } fun c =>
    { c with ackDeadline := [(150000, 5)] }

def noHold (s : State) : State :=
  s.setDir { s.dir with subs := [(12, { sub12 with body := .pager ⟨.twoWay, 300012, 3, 0x10, false, none, 1⟩ })] }

theorem test_DeadlinesAndExpiries :
    (ackTown 4).sched.ackDeadline = (150000, 5) :: [] ∧ (ackTown 4).params .normal = ⟨60, 60, 1800, 6, 72, 1, 300, 1000, false⟩
      ∧ ((after .ackDeadline (ackTown 4)).page 5).map (·.retryDue) = some (some 1110000)
      ∧ ((after .ackDeadline (ackTown 4)).page 5).map (·.stage) = some 2
      ∧ ((after .ackDeadline (ackTown 5)).mailbox 12 = [5])
      ∧ (after .ackDeadline ((ackTown 5).setStore { (ackTown 5).store with mailboxes := [(12, [1, 2, 3, 4, 6, 7, 8, 9])] })).page 5
          = none
      ∧ (after .ackDeadline (noHold (ackTown 5))).page 5 = none
      ∧ (after .ackDeadline (noHold (ackTown 5))).journal.records.length = 1
      ∧ (ackTown 4).sched.expiry = (300000, 5) :: []
      ∧ (after .expiry (ackTown 4)).page 5 = none ∧ (after .expiry (ackTown 4)).sys.clock = some 300000 := by decide +kernel

/-- A start that obtains nothing sets aired this attempt to no: with no zone to target, deferred, and with the pool empty. -/
theorem test_AttemptsStart_notAired :
    let aired (s : State) : State := s.modifyPage 5 fun p => { p with aired := true }
    let full := aired (withZone retryTown 7 fun r => { r with emergency := List.replicate 2048 ticket5 })
    let tried (s : State) : Option (PageState × Bool) := ((after .retryDue s).page 5).map fun p => (p.state, p.aired)
    ((aired retryTown).page 5).map (·.aired) = some true ∧ tried (aired retryTown) = some (.attempt, false)
      ∧ tried (aired (withZone retryTown 3 fun r => { r with state := .outOfService })) = some (.retryWait, false)
      ∧ tried (aired (retryTown.setZoneMeter 3 { retryTown.zoneMeter 3 with congested := true })) = some (.retryWait, false)
      ∧ tried full = some (.waitTicket, false) := by decide +kernel

/-- What an outcome raises, gives back and announces: a balance left below its threshold, a class with outcome notices, a line that
waits, and a ticket in an OPEN batch. -/
theorem test_Outcome :
    let s := openTown.setIntake { openTown.intake with waitList := [3] }
    let asks := s.setSched { s.sched with classes := s.sched.classes.set .normal { s.params .normal with outcomeNotices := true } }
    let p : Page := { page1 with estimate := 60 }
    let t := reachOutcome asks 5 p .delivered none
    t.port.notices = [.lowBalance 7 40 50, .pageOutcome 5 12 none .delivered 60]
      ∧ (t.account 7).map (·.money) = some (.prepaid 40 (some 50) true)
      ∧ ((reachOutcome asks 5 page1 .delivered none).account 7).map (·.money) = some (.prepaid 60 (some 50) false)
      ∧ ((reachOutcome t 5 p .delivered none).port.notices.length = 3)
      ∧ t.intake.announcements = 1 ∧ (reachOutcome openTown 5 p .delivered none).intake.announcements = 0
      ∧ (t.zone 3).making = none ∧ t.dispatch.zones = (giveUpTickets asks 5).dispatch.zones
      ∧ (reachOutcome (asks.setJournal { asks.journal with level := 1 }) 5 p .delivered none).port.notices.head?
          = some (.journalHigh true 1 1) := by decide +kernel

/-- The part with one report in the return queue. -/
def reported (s : State) (r : Report) : State := s.setReturns [r]

theorem test_ReturnReports_ack :
    after .ackDeadline town = town ∧ after .expiry town = town ∧ after .ackTaken town = town
      ∧ after .registerTaken town = town ∧ after .ackTaken (reported town (.register 9 7)) = reported town (.register 9 7)
      ∧ (after .ackTaken (reported town (.ack 300012 5 none 7))).port.notices = [.lateAck 300012 5 none 7]
      ∧ (after .ackTaken (reported (ackTown 0) (.ack 300013 5 none 7))).port.notices
          = [.unmatchedAck 300013 5 none 7 (some 13)]
      ∧ (after .ackTaken (reported (ackTown 0) (.ack 300012 5 none 7))).page 5 = none
      ∧ (after .ackTaken (reported (ackTown 0) (.ack 300012 5 (some 4) 7))).port.notices = [.reply 5 12 none 4 7] := by decide +kernel

def heldTown : State :=
  let s := withPage { page1 with state := .held, attempts := 6, stage := 2 } id
  s.setStore { s.store with mailboxes := [(12, [5])] }

theorem test_ReturnReports_register :
    (after .registerTaken (reported town (.register 9 7))).port.notices = [.unmatchedRegister 9 7 none]
      ∧ (after .registerTaken (reported town (.register 300013 7))).port.notices
          = [.unmatchedRegister 300013 7 (some (13, .numeric))]
      ∧ town.mailbox 12 = [] ∧ Table.get town.store.mailboxes 12 = none
      ∧ ((after .registerTaken (reported town (.register 300012 7))).sub 12)
          = some { sub12 with body := .pager ⟨.twoWay, 300012, 3, 0x10, true, some (7, 150), 1⟩ }
      ∧ heldTown.mailbox 12 = [5] ∧ (after .registerTaken (reported heldTown (.register 300012 3))).mailbox 12 = []
      ∧ ((after .registerTaken (reported heldTown (.register 300012 3))).page 5).map (·.attempts) = some 0
      ∧ ChannelLaw (reported heldTown (.register 300012 3)) :=
  ⟨by decide +kernel, by decide +kernel, by decide +kernel, by decide +kernel, by decide +kernel, by decide +kernel,
    by decide +kernel, by decide +kernel, test_channelKept (by decide +kernel)⟩

/-- Two pages in the ticket-wait list, or in one mailbox. -/
def pairTown (p : Page) : State :=
  let s := withPage p id
  s.setStore { s.store with pages := [(5, p), (6, p)] }
def waitPair : State := (pairTown page1).setDispatch { served.dispatch with ticketWait := [5, 6] }
def heldPair : State :=
  let s := pairTown { page1 with state := .held, attempts := 6, stage := 2 }
  s.setStore { s.store with mailboxes := [(12, [5, 6])] }

theorem test_InTurn :
    ChannelLaw waitPair ∧ ChannelLaw (reported heldPair (.register 300012 3))
      ∧ (waitPair.dispatch.ticketWait.Nodup ∧ (after .ticketWaitService waitPair).dispatch.ticketWait = []
        ∧ ((after .ticketWaitService waitPair).zone 3).live.map (·.reference) = [5, 6])
      ∧ heldPair.mailbox 12 = [5, 6]
      ∧ ((after .registerTaken (reported heldPair (.register 300012 3))).zone 3).live.map (·.reference) = [5, 6] :=
  ⟨test_channelKept (by decide +kernel), test_channelKept (by decide +kernel), by decide +kernel⟩

/-! ## Events of zones, groups and site links -/

def entry5 : BatchEntry := ⟨300012, 5, .tone, []⟩

/-- The same with the link of zone 3 in step. -/
def inStep (s : State) : State :=
  withLink s 3 fun l => { l with resyncPending := false, last := some ⟨false, false, false, false, false, false⟩ }

/-- The CLOSED batch of zone 3 asks, its group in the guard. -/
def askingTown : State :=
  closedTown.setGroup 0 { state := .guarding 20, pointer := 3, requests := 0x08, guardTime := 20 }

theorem test_TheChannel_hypotheses :
    ChannelLaw openTown ∧ ChannelLaw askingTown ∧ EntriesOf openTown [ticket5] [entry5] ∧ InStep ((inStep openTown).link 3)
      ∧ ¬ InStep (openTown.link 3) := by
  refine ⟨test_channelKept (by decide +kernel), test_channelKept (by decide +kernel), ⟨rfl, ?_⟩, ⟨rfl, _, rfl, rfl⟩, fun h => ?_⟩
  · intro e m
    rw [List.mem_singleton] at m
    subst m
    exact ⟨_, sub12, _, rfl, rfl, rfl, rfl⟩
  · exact absurd h.1 (by decide +kernel)

/-- The ticket due in a zone: EMERGENCY first, then three PRIORITY to one NORMAL, an empty queue passing its turn. -/
theorem test_Due :
    let k (c : PageClass) : Ticket := ⟨5, c, 1, false⟩
    let zone (e p n : List Ticket) (pattern : Fin 4) : ZoneRec :=
      { ZoneRec.initial with emergency := e, priority := p, normal := n, pattern := pattern }
    (zone [k .emergency] [k .priority] [] 3).due.map (·.1.cls) = some .emergency
      ∧ (zone [] [k .priority] [k .normal] 2).due.map (fun x => (x.1.cls, x.2.pattern)) = some (.priority, 3)
      ∧ (zone [] [k .priority] [k .normal] 3).due.map (fun x => (x.1.cls, x.2.pattern)) = some (.normal, 0)
      ∧ (zone [] [k .priority] [] 3).due.map (·.1.cls) = some .priority
      ∧ (zone [] [] [k .normal] 0).due.map (·.1.cls) = some .normal ∧ (zone [] [] [] 0).due = none := by decide +kernel

/-- Zone 3, in service, with tickets of some costs in its NORMAL queue, filled. -/
def filledZone (costs : List Nat) : ZoneRec :=
  (fillCore (withZone served 3 fun r => { r with normal := costs.map fun c => ⟨5, .normal, c, false⟩ }) 3).zone 3

/-- A batch closes by 32 tickets, by 128 slots, or by a ticket that does not fit; else it stays OPEN with empty queues. -/
theorem test_Filled :
    (filledZone (List.replicate 33 1)).making.map (fun b => (b.tickets.length, b.closed)) = some (32, true)
      ∧ (filledZone (List.replicate 33 1)).normal.length = 1
      ∧ (filledZone [100, 28]).making.map (fun b => (b.tickets.length, b.closed)) = some (2, true)
      ∧ (filledZone [100, 29]).making.map (fun b => (b.tickets.length, b.closed)) = some (1, true)
      ∧ (filledZone [100, 29]).normal.length = 1
      ∧ (filledZone [100, 27]).making.map (fun b => (b.tickets.length, b.closed)) = some (2, false)
      ∧ (filledZone []).making = none ∧ fillCore closedTown 3 = closedTown
      ∧ ((fillCore (openTown.setSys { openTown.sys with base := 999 }) 3).zone 3).making.map (·.closed) = some false
      ∧ ((fillCore (openTown.setSys { openTown.sys with base := 1000 }) 3).zone 3).making.map (·.closed) = some true := by
  decide +kernel

/-- The same page's ticket as one of an EMERGENCY page. -/
def urgent5 : Ticket := ⟨5, .emergency, 1, false⟩

/-- A ticket is placed in a zone that takes tickets while the pool holds one: a NORMAL one in an OPEN batch; an EMERGENCY one closes
the batch, which a FREE group grants at once and any other group leaves asking. -/
theorem test_PlaceTicket :
    ChannelLaw attemptTown ∧ (attemptTown.zone 3).state = .inService ∧ attemptTown.liveTickets.length < 2048
      ∧ ((placeTicket attemptTown ticket5 3).1.zone 3).making.map (·.closed) = some false
      ∧ ((placeTicket attemptTown urgent5 3).1.zone 3).site.map (·.tickets) = some [urgent5]
      ∧ ((placeTicket attemptTown urgent5 3).1.group 0).state = .granted 3
      ∧ (let u := fillCore (withZone attemptTown 3 fun r => { r with emergency := [urgent5] }) 3
        (u.group 0).state = .free ∧ (u.group 0).requests = ZoneSet.add 0 3
          ∧ (u.zone 3).making = some ⟨true, [urgent5], 0, 200, 1000⟩ ∧ EntriesOf u [urgent5] [entry5])
      ∧ ((placeTicket (attemptTown.setGroup 0 { state := .guarding 9, pointer := 3, requests := 0, guardTime := 20 }) urgent5 3).1.group
          0).requests = 0x08
      ∧ placeTicket attemptTown ticket5 7 = (attemptTown, 0)
      ∧ (placeTickets attemptTown ticket5 [3, 7]).2 = 1 := by
  refine ⟨test_channelKept (by decide +kernel), by decide +kernel, by decide +kernel, by decide +kernel, by decide +kernel,
    by decide +kernel, ⟨by decide +kernel, by decide +kernel, by decide +kernel, rfl, ?_⟩, by decide +kernel⟩
  intro e m
  rw [List.mem_singleton] at m
  subst m
  exact ⟨_, sub12, _, rfl, rfl, rfl, rfl⟩

/-- Zone 3 with two tickets in its OPEN batch. -/
def twoTickets : State :=
  withZone attemptTown 3 fun r => { r with making := some ⟨false, [ticket5, ⟨6, .normal, 1, false⟩], 0, 200, 1000⟩ }

/-- A page's tickets are given up: an unsent batch with others left is judged afresh, one left with none is discarded, with its
request if it was CLOSED; at the site they become orphans. -/
theorem test_GiveUp :
    ChannelLaw twoTickets ∧ ChannelLaw openTown ∧ ChannelLaw askingTown ∧ ChannelLaw (siteTown true)
      ∧ ((giveUpZone twoTickets 6 3).zone 3).making.map (·.tickets) = some [ticket5]
      ∧ ((giveUpZone (twoTickets.setSys { twoTickets.sys with base := 1000 }) 6 3).zone 3).site.map (·.tickets) = some [ticket5]
      ∧ ((giveUpZone openTown 5 3).zone 3).making = none
      ∧ ((askingTown.zone 3).making.map (·.closed) = some true ∧ ((giveUpZone askingTown 5 3).zone 3).making = none
        ∧ ((giveUpZone askingTown 5 3).group 0).requests = 0)
      ∧ ((giveUpZone (siteTown true) 5 3).zone 3).atSite.map (·.orphan) = [true]
      ∧ giveUpZone openTown 9 3 = openTown ∧ ((giveUpTickets openTown 5).zone 3).making = none :=
  ⟨test_channelKept (by decide +kernel), test_channelKept (by decide +kernel), test_channelKept (by decide +kernel),
    test_channelKept (by decide +kernel), by decide +kernel⟩

theorem test_TheChannel :
    (openTown.group 0).state = .free ∧ ((after (.batchHoldExpiry 3) openTown).link 3).batch = .withheld [entry5]
      ∧ ((after (.batchHoldExpiry 3) (inStep openTown)).link 3).tx = batchBytes true 0 [entry5]
      ∧ (after (.batchHoldExpiry 3) openTown).sys.base = 1000
      ∧ ((after (.batchHoldExpiry 3) (openTown.setGroup 0 { state := .guarding 9, pointer := 3, requests := 0, guardTime := 20 })).group
          0).requests = 0x08
      ∧ after (.batchHoldExpiry 3) closedTown = closedTown ∧ after (.batchHoldExpiry 7) town = town
      ∧ after (.guardExpiry 3) town = town
      ∧ ((after (.guardExpiry 3) (town.setGroup 3 { state := .guarding 9, pointer := 3, requests := 0, guardTime := 20 })).group 3).state
          = .free
      ∧ ((allZones.map fun k => (askingTown.group 0).pointer + 1 + k).filter fun y => ZoneSet.mem (askingTown.group 0).requests y) = [3]
      ∧ ((after (.guardExpiry 0) askingTown).group 0).state = .granted 3 := by decide +kernel

theorem test_ZoneTimers :
    after (.drainTimeout 7) town = town
      ∧ (after (.drainTimeout 3) (withZone (siteTown true) 3 fun r => { r with state := .draining, drainTimer := some 9000 })).port.notices
          = [.zoneState 3 .draining .outOfService .drainTimedOut, .drainDone 3 .timedOut 1 0 0]
      ∧ (after (.drainTimeout 3) (withZone (siteTown false) 3 fun r => { r with state := .draining, drainTimer := some 9000 })).port.notices
          = [.zoneState 3 .draining .outOfService .drainTimedOut, .drainDone 3 .timedOut 0 1 0]
      ∧ after (.settleWindowExpiry 7) town = town
      ∧ ((after (.settleWindowExpiry 3)
          (withLink (withZone town 3 fun r => { r with state := .settling }) 3 fun l => { l with settle := some 5000 })).zone 3).state
          = .inService
      ∧ (((after (.settleWindowExpiry 3)
          (withLink (withZone town 3 fun r => { r with state := .settling }) 3 fun l =>
            { l with settle := some 5000, last := some ⟨false, false, false, true, false, false⟩ })).link 3).fault .fwdPowerLow).latched
          = true := by decide +kernel

theorem test_LinkTimers :
    after (.takeTimeout 7) town = town ∧ after (.silenceTimeout 7) town = town ∧ after (.resyncTimeout 7) town = town
      ∧ after (.carrierTimeout 7) town = town
      ∧ (((after (.takeTimeout 3) (siteTown false)).link 3).fault .linkLost).latched = true
      ∧ ((after (.takeTimeout 3) (siteTown false)).zone 3).state = .faulted
      ∧ (after (.silenceTimeout 7) (withLink town 7 fun l => { l with silence := some 3000 })).sys.base = 3000
      ∧ (((after (.resyncTimeout 7) (withLink town 7 fun l => { l with resync := some 3000 })).link 7).fault .linkLost).present = true
      ∧ (((after (.resyncTimeout 7) (withLink town 7 fun l => { l with resync := some 3000, resyncPending := false })).link 7).fault
          .linkLost).present = false
      ∧ (((after (.carrierTimeout 3) (siteTown true)).link 3).fault .carrierStuck).present = true := by decide +kernel

theorem test_FramesFollow :
    after (.pollSend 7) town = town ∧ after (.batchFrameSent 7) town = town
      ∧ ((after (.pollSend 7) (withLink town 7 fun l => { l with pollDue := some 0 })).link 7).tx = siteFrame 0x02 [0x04]
      ∧ ((after (.pollSend 7) (withLink town 7 fun l => { l with pollDue := some 0, sendingBatch := true })).link 7).pollWaiting = true
      ∧ ((after (.batchFrameSent 7) (withLink town 7 fun l => { l with pollWaiting := true, sendingBatch := true })).link 7).pollDue
          = some 200
      ∧ ((after (.batchFrameSent 3) (withLink (siteTown false) 3 fun l => { l with sendingBatch := true, take := none })).link 3).take
          = some 500
      ∧ ((after (.batchFrameSent 7) (withLink town 7 fun l => { l with nextFrame := some [1], sendingBatch := true })).link 7).tx
          = [1] := by decide +kernel

/-- A STATUS frame. -/
def statusFrame (flags rt : Byte) (reports : List (List Byte)) : List Byte :=
  siteFrame 0x03 (flags :: rt :: be 1 reports.length ++ reports.flatten)

def ackReport : List Byte := [0x01, 0x04, 0x93, 0xEC, 0x00, 0x05, 0x01, 0x04, 0x07]

theorem test_StatusFrames :
    after (.statusReceived 7 (statusFrame 8 0 [])) (inStandby town) = inStandby town
      ∧ ((after (.statusReceived 7 (statusFrame 8 0 [])) town).link 7).resyncPending = false
      ∧ (after (.statusReceived 7 (statusFrame 0 1 (List.replicate 4 ackReport))) town).returns
          = List.replicate 4 (.ack 300012 5 (some 4) 7)
      ∧ ((after (.statusReceived 7 [0xC3, 0x00, 0x04, 0x02]) town).link 7).discarded = 1
      ∧ ((after (.statusReceived 7 [0xC3, 0x00, 0x05, 0x03]) town).link 7).discarded = 1
      ∧ ((after (.statusReceived 7 ((statusFrame 8 0 []).dropLast ++ [0x00])) town).link 7).discarded = 1
      ∧ ((after (.statusReceived 7 (statusFrame 0 2 [])) town).link 7).discarded = 1
      ∧ ((after (.statusReceived 7 (statusFrame 0 1 [[0x01, 0x04, 0x93, 0xEC, 0x00, 0x05, 0x01, 0x05, 0x07]])) town).link 7).discarded = 1
      ∧ ((after (.siteFrameGap 7 ((statusFrame 8 0 []).take 1)) town).link 7).discarded = 1
      ∧ ((after (.siteFrameGap 7 ((statusFrame 8 0 []).take 8)) town).link 7).discarded = 1 := by decide +kernel

/-- The reserved flag bit and the padding bytes of a REGISTER report are disregarded. -/
theorem test_StatusFrames_reserved :
    after (.statusReceived 7 (statusFrame 0x88 0 [])) town = after (.statusReceived 7 (statusFrame 8 0 [])) town
      ∧ (after (.statusReceived 7 (statusFrame 0x80 1 [[0x02, 0x04, 0x93, 0xEC, 0xAA, 0xBB, 0xCC, 0xDD, 0x03]])) town).returns
          = [.register 300012 3]
      ∧ (after (.statusReceived 7 (statusFrame 0x80 1 [[0x01, 0x04, 0x93, 0xEC, 0x00, 0x05, 0x00, 0xEE, 0x03]])) town).returns
          = [.ack 300012 5 none 3] := by decide +kernel

/-- A STATUS with nothing to tell, and one that a site that ends its batch sends. -/
def quiet : Status := ⟨false, false, false, false, false, false, false, false, []⟩

theorem test_StatusMoves :
    (town.link 7).resyncPending = true ∧ (town.link 7).batch = .none ∧ (town.link 7).st = false
      ∧ ((handleStatus town 7 { quiet with resyncAck := true }).link 7).resyncPending = false
      ∧ ((handleStatus town 7 { quiet with resyncAck := true, tt := true }).link 7).resyncPending = true
      ∧ (handleStatus town 7 { quiet with reports := [.register 9 7] }).returns = [.register 9 7]
      ∧ (handleStatus (town.setReturns (List.replicate 64 (.register 9 7))) 7 { quiet with reports := [.register 9 7] }).returns.length
          = 64
      ∧ ((siteTown true).link 3).ra = some quiet.rt
      ∧ ((handleStatus served 3 { quiet with fwdPowerLow := true }).link 3).fault .fwdPowerLow = ⟨true, true, false, false⟩
      ∧ ((handleStatus town 7 { quiet with siteAlarm := true, reflectedHigh := true }).link 7).fault .siteAlarm
          = ⟨true, true, false, false⟩ := by decide +kernel

/-- A site that keeps to R138 and missed what the part sent: its toggles are not the part's. -/
def strangeSite : SiteSide := ⟨true, true, [⟨true, []⟩], none, false, false, false, false, true, true, [.register 9 7], false⟩

/-- Such a site completes the resync by its STATUS on the part's POLL, and learns from the next that its reports are taken. -/
theorem test_SiteRules :
    ((town.link 7).resyncPending = true ∧ (strangeSite.onPoll (pollByte (town.link 7))).waiting = [])
      ∧ (let answered := strangeSite.onPoll (pollByte (town.link 7))
        let t := after (.statusReceived 7 answered.status.frame) town
        (t.link 7).resyncPending = false ∧ t.returns = [.register 9 7]
          ∧ (answered.onPoll (pollByte (t.link 7))).echoed = true
          ∧ answered.statusDue answered.status 499 = false ∧ answered.statusDue answered.status 500 = true)
      ∧ (strangeSite.onBatch false []).key.unkey.key.unkey.dt = false := by decide +kernel

/-- The batch of zone 3 granted out of step: its frame is withheld. -/
def withheldTown : State := after (.batchHoldExpiry 3) openTown

/-- The completion of the resync sends the withheld frame, or leaves it behind a BATCH frame on the line; a STATUS that does not complete
it leaves it withheld. -/
theorem test_StatusMoves_withheld :
    Kept withheldTown ∧ ¬ TakeOutAt withheldTown 3
      ∧ (withheldTown.link 3).resyncPending = true ∧ (withheldTown.link 3).batch = .withheld [entry5]
      ∧ (withheldTown.zone 3).site = some ⟨false, [ticket5], 0, 0, none⟩
      ∧ ((handleStatus withheldTown 3 { quiet with resyncAck := true }).link 3).tx = batchBytes true 0 [entry5]
      ∧ ((handleStatus withheldTown 3 { quiet with resyncAck := true }).zone 3).site = some ⟨false, [ticket5], 0, 0, some true⟩
      ∧ ((handleStatus (withLink withheldTown 3 fun l => { l with sendingBatch := true }) 3 { quiet with resyncAck := true }).link
          3).nextFrame = some (batchBytes true 0 [entry5])
      ∧ ((handleStatus withheldTown 3 quiet).link 3).batch = .withheld [entry5] := by
  refine ⟨test_kept (by unfold ZonesLaw; decide +kernel) (by decide +kernel), ?_, by decide +kernel⟩
  rw [test_takeOutAt]
  decide +kernel

/-- The part with the site alarm of zone 3 given the action TAKE_OUT, not present. -/
def guarded (s : State) : State := withLink s 3 fun l => l.setFault .siteAlarm ⟨false, false, true, false⟩

/-- The part with zone 3 FAULTED by LINK_LOST or CARRIER_STUCK. -/
def faultedBy (k : FaultKind) : State :=
  withLink (withZone town 3 fun r => { r with state := .faulted }) 3 fun l => l.setFault k ⟨true, true, true, false⟩

def settlingTown : State := withZone openTown 3 fun r => { r with state := .settling }
def drainingTown (onAir : Bool) : State :=
  withZone (siteTown onAir) 3 fun r => { r with state := .draining, drainTimer := some 9000 }

/-- Each keeps the laws that StatusMovesTheZone has as hypotheses. -/
theorem test_StatusMovesTheZone_hypotheses :
    (Kept (faultedBy .linkLost) ∧ Kept (faultedBy .carrierStuck) ∧ Kept (guarded (faultedBy .linkLost)))
      ∧ Kept (guarded (siteTown false)) ∧ Kept (guarded (siteTown true)) ∧ Kept (guarded openTown) ∧ Kept (guarded settlingTown)
      ∧ Kept (guarded (drainingTown false)) ∧ Kept (guarded (drainingTown true)) := by
  refine ⟨⟨?_, ?_, ?_⟩, ?_, ?_, ?_, ?_, ?_, ?_⟩ <;> exact test_kept (by unfold ZonesLaw; decide +kernel) (by decide +kernel)

/-- A resync completed with no batch at the link, in a part that keeps the law of its links. -/
theorem test_StatusMoves_noBatch :
    LinksLaw town ∧ ((town.link 7).resyncPending = true ∧ (town.link 7).batch = .none ∧ (town.link 7).st = false
      ∧ ((handleStatus (faultedBy .linkLost) 3 { quiet with resyncAck := true }).link 3).resync = none
      ∧ (((handleStatus (faultedBy .linkLost) 3 { quiet with resyncAck := true }).link 3).fault .linkLost).present = false)
      ∧ LinksLaw (faultedBy .linkLost) :=
  ⟨test_linksKept (by decide +kernel), by decide +kernel, test_linksKept (by decide +kernel)⟩

/-- What a STATUS makes of zone 3. -/
def moved (s : State) (x : Status) : ZoneState := ((handleStatus s 3 x).zone 3).state

/-- A FAULTED zone goes into SETTLING once its last take-out condition is gone, stays, or is taken out again in the same STATUS. -/
theorem test_StatusMovesTheZone_faulted :
    moved (faultedBy .linkLost) { quiet with resyncAck := true } = .settling
      ∧ ((handleStatus (faultedBy .linkLost) 3 { quiet with resyncAck := true }).link 3).settle = some 5000
      ∧ moved (faultedBy .linkLost) quiet = .faulted
      ∧ moved (faultedBy .carrierStuck) quiet = .settling ∧ moved (faultedBy .carrierStuck) { quiet with carrier := true } = .faulted
      ∧ moved (alarmed .faulted) quiet = .settling ∧ moved (alarmed .faulted) { quiet with siteAlarm := true } = .faulted
      ∧ moved (guarded (faultedBy .linkLost)) { quiet with resyncAck := true, siteAlarm := true } = .faulted
      ∧ (handleStatus (guarded (faultedBy .linkLost)) 3 { quiet with resyncAck := true, siteAlarm := true }).port.notices.length = 3
      ∧ (handleStatus town 3 { quiet with siteAlarm := true }).zone 3 = town.zone 3 := by decide +kernel

/-- A site condition with action TAKE_OUT takes a zone out: what is unsent goes back, a batch its site had taken, in this STATUS or
before, has aired, one it had not taken has not; a drain is over. -/
theorem test_StatusMovesTheZone_takenOut :
    let alarm : Status := { quiet with siteAlarm := true }
    moved (guarded openTown) alarm = .faulted
      ∧ ((handleStatus (guarded openTown) 3 alarm).page 5).map (·.state) = some .retryWait
      ∧ moved (guarded settlingTown) alarm = .faulted ∧ moved (guarded settlingTown) { quiet with fwdPowerLow := true } = .settling
      ∧ moved (guarded (siteTown false)) alarm = .faulted
      ∧ ((handleStatus (guarded (siteTown false)) 3 alarm).page 5).map (·.state) = some .retryWait
      ∧ ((handleStatus (guarded (siteTown false)) 3 { alarm with tt := true, carrier := true }).page 5).map (·.state) = some .awaitAck
      ∧ ((handleStatus (guarded (siteTown true)) 3 { alarm with tt := true, carrier := true }).page 5).map (·.state) = some .awaitAck
      ∧ ((handleStatus (guarded (siteTown true)) 3 { alarm with tt := true, dt := true }).group 0).state = .guarding 20
      ∧ moved (guarded (drainingTown true)) { alarm with tt := true, carrier := true } = .outOfService
      ∧ ((handleStatus (guarded (drainingTown true)) 3 { alarm with tt := true, carrier := true }).page 5).map (·.state)
          = some .awaitAck
      ∧ moved (guarded (drainingTown false)) alarm = .outOfService
      ∧ ((handleStatus (guarded (drainingTown false)) 3 alarm).page 5).map (·.state) = some .retryWait := by decide +kernel

/-- Each link timer's hypotheses, and the link it leaves: with the condition the zone's first to take it out, which abandons its batch,
and with another present already. -/
theorem test_LinkTimers_links :
    let left (c : Instr) (s : State) (z : Zone) : Bool × Option Nat × Option Nat × Option Nat :=
      let l := (after c s).link z
      (l.resyncPending, l.silence, l.resync, l.take)
    let silent (s : State) : State := withLink s 3 fun l => { l with silence := some 3000, resync := some 4000 }
    ((silent (siteTown false)).link 3).take = some 500
      ∧ left (.takeTimeout 3) (silent (siteTown false)) 3 = (true, none, none, none)
      ∧ ((after (.takeTimeout 3) (silent (siteTown false))).link 3).st = true
      ∧ left (.silenceTimeout 3) (silent (siteTown false)) 3 = (true, none, none, none)
      ∧ left (.silenceTimeout 3) (silent (siteTown true)) 3 = (true, none, none, none)
      ∧ ((after (.silenceTimeout 3) (silent (siteTown true))).link 3).carrier = some (false, 1025)
      ∧ left (.resyncTimeout 3) (withLink (silent (siteTown false)) 3 fun l => { l with resyncPending := true }) 3
          = (true, none, none, none)
      ∧ left (.silenceTimeout 3) (silent (faultedBy .carrierStuck)) 3 = (true, none, none, none)
      ∧ ((after (.carrierTimeout 3) (siteTown true)).link 3).carrier = none
      ∧ ((after (.carrierTimeout 3) (siteTown true)).zone 3).state = .faulted
      ∧ ((after (.carrierTimeout 3) (withLink (faultedBy .linkLost) 3 fun l => { l with carrier := some (false, 9) })).link 3).carrier
          = none := by decide +kernel

/-- What an abandonment leaves at the link, by the state of the batch: at the end of a drain, at a ZONE-SERVICE OUT and at a STATUS. -/
theorem test_AbandonedLinks :
    let alarm : Status := { quiet with siteAlarm := true }
    let drained (s : State) : LinkRec := (after (.drainTimeout 3) s).link 3
    (drained (drainingTown false)) = leftLink (elapseTo (drainingTown false) 9000) 3
      ∧ (drained (drainingTown false)).resync = some 12000 ∧ (drained (drainingTown false)).resyncPending = true
      ∧ (drained (drainingTown true)) = leftLink (elapseTo (drainingTown true) 9000) 3
      ∧ (drained (drainingTown true)).carrier = some (false, 1025) ∧ (drained (drainingTown true)).resyncPending = false
      ∧ (abandonedLink (withheldTown.link 3) 9000).batch = .none
      ∧ (abandonedLink (withheldTown.link 3) 9000).resync = (withheldTown.link 3).resync
      ∧ ((handleStatus (guarded (siteTown false)) 3 alarm).link 3).resync = some 3000
      ∧ ((handleStatus (guarded (siteTown true)) 3 { alarm with tt := true, carrier := true }).link 3).carrier = some (false, 1025)
      ∧ ((handleStatus (guarded (siteTown true)) 3 { alarm with tt := true, dt := true }).link 3).carrier = none
      ∧ ((handleStatus (guarded withheldTown) 3 { alarm with resyncAck := true }).link 3).st = true
      ∧ ((handleStatus (guarded withheldTown) 3 alarm).link 3).resync = (withheldTown.link 3).resync
      ∧ ((handleStatus (guarded withheldTown) 3 alarm).link 3).batch = .none := by decide +kernel

/-- The notices of a zone that changes state and of a drain that ends, where the queue has room for all, and where it has none. -/
theorem test_ZoneNotices :
    let alarm : Status := { quiet with siteAlarm := true }
    let said (s : State) : List Notice := s.port.notices
    let packed (s : State) : State := s.setPort { s.port with notices := List.replicate 64 (.lineOverrun 0) }
    said (after (.takeTimeout 3) (siteTown false)) = [.faultChange 3 .linkLost true true, .zoneState 3 .inService .faulted .takeOut]
      ∧ said (after (.takeTimeout 3) (drainingTown false))
          = [.faultChange 3 .linkLost true true, .zoneState 3 .draining .outOfService .drainFaulted, .drainDone 3 .faulted 0 1 0]
      ∧ (after (.takeTimeout 3) (packed (siteTown false))).port.lost = 2
      ∧ said (handleStatus (guarded (drainingTown true)) 3 { alarm with tt := true, carrier := true })
          = [.faultChange 3 .siteAlarm true true, .zoneState 3 .draining .outOfService .drainFaulted, .drainDone 3 .faulted 1 0 0]
      ∧ said (handleStatus (guarded (drainingTown true)) 3 { alarm with tt := true, dt := true })
          = [.zoneState 3 .draining .outOfService .drainCompleted, .drainDone 3 .completed 1 0 0, .faultChange 3 .siteAlarm true true]
      ∧ said (handleStatus (drainingTown true) 3 { quiet with tt := true, dt := true })
          = [.zoneState 3 .draining .outOfService .drainCompleted, .drainDone 3 .completed 1 0 0]
      ∧ said (handleStatus (guarded settlingTown) 3 alarm)
          = [.faultChange 3 .siteAlarm true true, .zoneState 3 .settling .faulted .takeOut]
      ∧ said (handleStatus (guarded (faultedBy .linkLost)) 3 { quiet with resyncAck := true, siteAlarm := true })
          = [.zoneState 3 .faulted .settling .takeOutClear, .faultChange 3 .siteAlarm true true,
              .zoneState 3 .settling .faulted .takeOut]
      ∧ said (after .faultAction (ordered (faulty served 3 .siteAlarm) 0x29 [3, 4, 1])) = [.zoneState 3 .inService .faulted .takeOut] := by
  decide +kernel

/-- A ZONE-SERVICE OUT from SETTLING whose drain FWD-POWER-LOW ends, at a zone that keeps the law its counts rest on. -/
def lowTown : State :=
  withLink (withZone (siteTown false) 3 fun r => { r with state := .settling }) 3 fun l =>
    { l.setFault .fwdPowerLow ⟨false, false, true, false⟩ with
      settle := some 5000, last := some ⟨false, false, false, true, false, false⟩ }

theorem test_ZoneServiceOut_notices :
    TicketPagesLaw lowTown
      ∧ (after .zoneServiceOut (ordered lowTown 0x24 [3, 1])).port.notices
          = [.zoneState 3 .settling .draining .order, .faultChange 3 .fwdPowerLow true true,
              .zoneState 3 .draining .outOfService .drainFaulted, .drainDone 3 .faulted 0 1 0] :=
  ⟨test_ticketPagesKept (by decide +kernel), by decide +kernel⟩

theorem test_StatusTakesAndEnds_hypotheses :
    ChannelLaw (siteTown false) ∧ ChannelLaw (siteTown true) ∧ ((siteTown true).link 3).resyncPending = false
      ∧ (∀ k ∈ allFaultKinds, (((siteTown true).link 3).fault k).present = false)
      ∧ ((siteTown true).zone 3).site = some ⟨true, [ticket5], 0, 9, some true⟩ :=
  ⟨test_channelKept (by decide +kernel), test_channelKept (by decide +kernel), by decide +kernel⟩

theorem test_StatusTakesAndEnds :
    ((handleStatus (siteTown false) 3 { quiet with tt := true, carrier := true }).link 3).carrier = some (true, 1025)
      ∧ ((handleStatus (siteTown false) 3 { quiet with tt := true, carrier := true }).link 3).batch = .onAir
      ∧ ((handleStatus (siteTown false) 3 { quiet with tt := true, dt := true }).zone 3).site = none
      ∧ ((handleStatus (siteTown true) 3 { quiet with tt := true, dt := true }).group 0).state = .guarding 20
      ∧ ((handleStatus (siteTown true) 3 { quiet with tt := true, dt := true }).page 5).map (·.state) = some .awaitAck
      ∧ ((handleStatus (siteTown true) 3 { quiet with tt := true }).link 3).batch = .onAir
      ∧ ((handleStatus (siteTown false) 3 quiet).link 3).take = some 500
      ∧ ((handleStatus (inStep town) 3 { quiet with dt := true }).link 3).resyncPending = true
      ∧ ((handleStatus (inStep town) 3 { quiet with carrier := true }).link 3).carrier = some (false, 1000)
      ∧ ((handleStatus (inStep town) 3 quiet).link 3).carrier = none := by decide +kernel

/-! ## The laws of the part -/

/-- A part in STANDBY with subscribers, accounts, one record and one live page, which keeps every law. -/
def lawful : State :=
  let s := withRecords (inStandby busyTown) 1
  (s.setMoney
      { s.money with accounts := [(7, { account7 with reserved := 40, livePages := 1 }), (8, account8), (9, account9)] }).setDispatch
    { s.dispatch with ticketWait := [5] }

theorem test_lawful_steps : step lawful = .next (elapse lawful 1) := rfl

theorem test_lawful_queues : QueuesBounded lawful ∧ AnswersOrdered lawful := by
  refine ⟨by unfold QueuesBounded; decide +kernel, by decide +kernel, by decide +kernel, by decide +kernel, ?_⟩
  intro x h apart
  cases h
  exact absurd rfl apart

theorem test_lawful_pages : SlotLaw lawful ∧ JournalLaw lawful ∧ TicketsLaw lawful ∧ ClockLaw lawful := by
  refine ⟨by unfold SlotLaw; decide +kernel, by unfold JournalLaw; decide +kernel, by unfold TicketsLaw; decide +kernel, ?_⟩
  intro t h
  cases h
  decide

theorem test_lawful_lines : LinesLaw lawful := by
  have same : ∀ n : LineId, lawful.line n = Line.initial := by decide +kernel
  intro n
  rw [same]
  unfold LineLaw
  decide +kernel

theorem test_lawful_dispatch : ZonesLaw lawful ∧ ChannelLaw lawful := by
  refine ⟨?_, test_channelKept (by decide +kernel)⟩
  unfold ZonesLaw
  decide +kernel

theorem test_lawful_lists : ListsLaw lawful ∧ TicketPagesLaw lawful ∧ LinksLaw lawful ∧ FaultsLaw lawful ∧ AlarmsLaw lawful :=
  ⟨test_listsKept (by decide +kernel), test_ticketPagesKept (by decide +kernel),
    test_linksKept (by decide +kernel), test_faultsKept (by decide +kernel), test_alarmsKept (by decide +kernel)⟩

/-- Parts in RUNNING that keep them: with a page in ATTEMPT whose ticket is in an OPEN batch, in one its site has not taken, in one on
the air, with a page HELD, and with a zone FAULTED. -/
theorem test_kept_open : Kept openTown :=
  test_kept (by unfold ZonesLaw; decide +kernel) (by decide +kernel)

theorem test_kept_sent : Kept (siteTown false) :=
  test_kept (by unfold ZonesLaw; decide +kernel) (by decide +kernel)

theorem test_kept_onAir : Kept (siteTown true) :=
  test_kept (by unfold ZonesLaw; decide +kernel) (by decide +kernel)

theorem test_kept_held : Kept heldTown :=
  test_kept (by unfold ZonesLaw; decide +kernel) (by decide +kernel)

theorem test_kept_faulted : Kept (alarmed .faulted) :=
  test_kept (by unfold ZonesLaw; decide +kernel) (by decide +kernel)

theorem test_lawful_sub {i : Nat} {u : Subscriber} (h : lawful.sub i = some u) :
    i = 12 ∧ u = sub12 ∨ i = 13 ∧ u = sub13 ∨ i = 14 ∧ u = sub14 ∨ i = 20 ∧ u = sub20 := by
  have m : (i, u) ∈ [(12, sub12), (13, sub13), (14, sub14), (20, sub20)] := test_get_mem _ _ _ h
  simpa using m

theorem test_lawful_airMap : AirMapLaw lawful := by
  refine ⟨by unfold Table.wf; decide +kernel, by unfold Table.wf; decide +kernel, fun air i => ⟨fun h => ?_, ?_⟩⟩
  · have m : (air, i) ∈ [(300012, 12), (300013, 13), (300014, 14)] := test_get_mem _ _ _ h
    simp only [List.mem_cons, Prod.mk.injEq, List.not_mem_nil, or_false] at m
    obtain ⟨rfl, rfl⟩ | ⟨rfl, rfl⟩ | ⟨rfl, rfl⟩ := m
    · exact ⟨sub12, _, rfl, rfl, rfl⟩
    · exact ⟨sub13, _, rfl, rfl, rfl⟩
    · exact ⟨sub14, _, rfl, rfl, rfl⟩
  · rintro ⟨u, p, found, body, rfl⟩
    obtain ⟨rfl, rfl⟩ | ⟨rfl, rfl⟩ | ⟨rfl, rfl⟩ | ⟨rfl, rfl⟩ := test_lawful_sub found <;> cases body <;> decide +kernel

theorem test_lawful_subscribers : BlocksLaw lawful ∧ SubscribersLaw lawful := by
  refine ⟨test_BlocksLaw, by unfold Table.wf; decide +kernel, ?_, ?_⟩
  · intro i u p found body
    obtain ⟨rfl, rfl⟩ | ⟨rfl, rfl⟩ | ⟨rfl, rfl⟩ | ⟨rfl, rfl⟩ := test_lawful_sub found <;> cases body <;> decide +kernel
  · intro i u members found body
    obtain ⟨rfl, rfl⟩ | ⟨rfl, rfl⟩ | ⟨rfl, rfl⟩ | ⟨rfl, rfl⟩ := test_lawful_sub found <;> cases body
    refine ⟨by decide, by decide, by decide, by decide, fun m h => ?_⟩
    simp only [List.mem_cons, List.not_mem_nil, or_false] at h
    obtain rfl | rfl := h
    · exact ⟨sub12, _, rfl, rfl⟩
    · exact ⟨sub13, _, rfl, rfl⟩

theorem test_lawful_reservations : ReservationsLaw lawful := by
  refine ⟨by unfold Table.wf; decide +kernel, by unfold Table.wf; decide +kernel, ?_, ?_⟩
  · intro r p h
    have m : (r, p) ∈ [(5, page1)] := test_get_mem _ _ _ h
    simp only [List.mem_singleton, Prod.mk.injEq] at m
    obtain ⟨rfl, rfl⟩ := m
    decide +kernel
  · intro a x h
    have m : (a, x) ∈ [(7, { account7 with reserved := 40, livePages := 1 }), (8, account8), (9, account9)] :=
      test_get_mem _ _ _ h
    simp only [List.mem_cons, Prod.mk.injEq, List.not_mem_nil, or_false] at m
    obtain ⟨rfl, rfl⟩ | ⟨rfl, rfl⟩ | ⟨rfl, rfl⟩ := m <;> decide +kernel

end Sys2Proof.Tests
end

