-- ==== Sys2Proof/Proofs/NumberPlan.lean ====
section
/-! SUPPORT. Proofs/NumberPlan.lean: what the meanings of BLOCK-DEFINE and BLOCK-CLEAR give for the fields they read, and the
statement of their two rows (R9, R10). -/

namespace Sys2Proof.Machine

/-! ## Fields of any size, read back -/

/-- Bytes in front of others are read as a field of their number. -/
theorem takeNat_append (bytes rest : List Byte) :
    takeNat bytes.length (bytes ++ rest) = some (natOf bytes, rest) := by
  simp [takeNat]

/-- Fields are read back whatever their values, each without what does not fit its width. -/
theorem readFields_writeFields_mod {ws xs : List Nat} (h : xs.length = ws.length) :
    readFields ws (writeFields ws xs) = some (List.zipWith (fun w x => x % 256 ^ w) ws xs) := by
  induction ws generalizing xs with
  | nil =>
    obtain rfl := List.length_eq_zero_iff.1 h
    rfl
  | cons w ws ih =>
    cases xs with
    | nil => simp at h
    | cons x xs =>
      have head : takeNat w (be w x ++ writeFields ws xs) = some (x % 256 ^ w, writeFields ws xs) := by
        simpa only [length_be, natOf_be] using takeNat_append (be w x) (writeFields ws xs)
      simp [writeFields, readFields, head, ih (Nat.succ.inj h)]

theorem exists_of_length_eq_three {l : List Nat} (h : l.length = 3) : ∃ a b c, l = [a, b, c] := by
  match l, h with
  | [a, b, c], _ => exact ⟨a, b, c, rfl⟩

/-! ## Entry numbers and ranges -/

theorem finOf_val {n : Nat} (e : Fin n) : finOf n e.val = some e := dif_pos e.isLt

theorem finOf_eq_none {n x : Nat} (h : n ≤ x) : finOf n x = none := dif_neg (Nat.not_lt.2 h)

theorem NumberBlock.inRange_iff (b : NumberBlock) :
    b.inRange = true ↔ b.first ≤ 9999999 ∧ 1 ≤ b.count ∧ b.count ≤ 4096 ∧ b.index ≤ 4095
      ∧ b.first + b.count ≤ 10000000 ∧ b.index + b.count ≤ 4096 := by
  simp only [NumberBlock.inRange, Bool.and_eq_true, decide_eq_true_eq, and_assoc]

/-- BLOCK-DEFINE may write a block in an entry: its ranges are kept, and no other DEFINED entry shares a number or an index
with it (R9). -/
def Directory.accepts (d : Directory) (e : Fin 8) (b : NumberBlock) : Bool := b.inRange && !d.blockConflict e b

theorem Directory.accepts_iff (d : Directory) (e : Fin 8) (b : NumberBlock) :
    d.accepts e b = true ↔ b.first ≤ 9999999 ∧ 1 ≤ b.count ∧ b.count ≤ 4096 ∧ b.index ≤ 4095
      ∧ b.first + b.count ≤ 10000000 ∧ b.index + b.count ≤ 4096
      ∧ ∀ (f : Fin 8) (c : NumberBlock), f ≠ e → d.blocks[f] = some c →
        (b.first + b.count ≤ c.first ∨ c.first + c.count ≤ b.first)
          ∧ (b.index + b.count ≤ c.index ∨ c.index + c.count ≤ b.index) := by
  simp only [Directory.accepts, Bool.and_eq_true, Bool.not_eq_true', NumberBlock.inRange_iff, blockConflict_eq_false,
    and_assoc]

/-! ## What the two meanings give -/

/-- An entry number above the eight entries is BAD-VALUE (R9). -/
theorem orderBlockDefine_noEntry {body : List Byte} {x first count index : Nat}
    (read : readFields [1, 4, 2, 2] body = some [x, first, count, index]) (hx : 8 ≤ x) (s : State) :
    orderBlockDefine body s = (s, .badValue) := by
  simp only [orderBlockDefine, read, finOf_eq_none hx]

/-- BLOCK-DEFINE of one of the eight entries: the block is written when it may be, and refused otherwise (R9). -/
theorem orderBlockDefine_entry {body : List Byte} {e : Fin 8} {first count index : Nat}
    (read : readFields [1, 4, 2, 2] body = some [e.val, first, count, index]) (s : State) :
    orderBlockDefine body s
      = if s.dir.accepts e ⟨first, count, index⟩ then
          (s.setDir { s.dir with blocks := s.dir.blocks.set e (some ⟨first, count, index⟩) }, .done [])
        else (s, .badValue) := by
  simp only [orderBlockDefine, read, finOf_val, Directory.accepts]
  by_cases ranges : NumberBlock.inRange ⟨first, count, index⟩ = true
  · by_cases overlap : s.dir.blockConflict e ⟨first, count, index⟩ = true <;> simp [ranges, overlap]
  · simp [ranges]

/-- An entry number above the eight entries is BAD-VALUE (R10). -/
theorem orderBlockClear_noEntry {body : List Byte} {x : Nat} (read : readFields [1] body = some [x]) (hx : 8 ≤ x)
    (s : State) : orderBlockClear body s = (s, .badValue) := by
  simp only [orderBlockClear, read, finOf_eq_none hx]

/-- BLOCK-CLEAR of one of the eight entries: a DEFINED one becomes UNDEFINED (R10). -/
theorem orderBlockClear_entry {body : List Byte} {e : Fin 8} (read : readFields [1] body = some [e.val]) (s : State) :
    orderBlockClear body s
      = if s.dir.blocks[e].isNone then (s, .unknown)
        else (s.setDir { s.dir with blocks := s.dir.blocks.set e none }, .done []) := by
  simp only [orderBlockClear, read, finOf_val]

/-! ## The two rows -/

theorem exec_blockDefine_at {s t : State} {tag : Byte} {body : List Byte} {rest : List Order} {r : Result}
    (h : OrderAt s 0x01 tag body rest) (gives : orderBlockDefine body (taken s rest) = (t, r)) :
    exec .blockDefine s = answered t 0x01 tag r :=
  runOrder_gives (accepts := ofKind 0x01) (meaning := orderBlockDefine) h rfl gives

theorem exec_blockClear_at {s t : State} {tag : Byte} {body : List Byte} {rest : List Order} {r : Result}
    (h : OrderAt s 0x02 tag body rest) (gives : orderBlockClear body (taken s rest) = (t, r)) :
    exec .blockClear s = answered t 0x02 tag r :=
  runOrder_gives (accepts := ofKind 0x02) (meaning := orderBlockClear) h rfl gives

/-- BLOCK-DEFINE of an entry that does not exist, whatever the other fields (R9). -/
theorem exec_blockDefine_noEntry {s : State} {tag : Byte} {rest : List Order} {x : Nat} {fields : List Nat} (hx : 8 ≤ x)
    (byte : x < 256) (three : fields.length = 3)
    (h : OrderAt s 0x01 tag (writeFields [1, 4, 2, 2] (x :: fields)) rest) :
    exec .blockDefine s = answered (taken s rest) 0x01 tag .badValue := by
  obtain ⟨first, count, index, rfl⟩ := exists_of_length_eq_three three
  have read : readFields [1, 4, 2, 2] (writeFields [1, 4, 2, 2] [x, first, count, index])
      = some [x, first % 256 ^ 4, count % 256 ^ 2, index % 256 ^ 2] :=
    (readFields_writeFields_mod (ws := [1, 4, 2, 2]) (xs := [x, first, count, index]) rfl).trans
      (by simp [Nat.mod_eq_of_lt byte])
  exact exec_blockDefine_at h (orderBlockDefine_noEntry read hx _)

/-- BLOCK-DEFINE of one of the eight entries, from the test of R9. -/
theorem exec_blockDefine_entry {s : State} {tag : Byte} {rest : List Order} {e : Fin 8} {first count index : Nat}
    (hf : first < 4294967296) (hc : count < 65536) (hi : index < 65536)
    (h : OrderAt s 0x01 tag (writeFields [1, 4, 2, 2] [e.val, first, count, index]) rest) :
    (s.dir.accepts e ⟨first, count, index⟩ = true → exec .blockDefine s
      = answered ((taken s rest).setDir { s.dir with blocks := s.dir.blocks.set e (some ⟨first, count, index⟩) })
          0x01 tag (.done []))
    ∧ (¬ s.dir.accepts e ⟨first, count, index⟩ = true →
      exec .blockDefine s = answered (taken s rest) 0x01 tag .badValue) := by
  have he : e.val < 256 ^ 1 := by omega
  have gives := orderBlockDefine_entry (readFields_writeFields ⟨he, hf, hc, hi, trivial⟩) (taken s rest)
  exact ⟨fun fits => exec_blockDefine_at h (gives.trans (if_pos fits)),
    fun fails => exec_blockDefine_at h (gives.trans (if_neg fails))⟩

/-- BLOCK-CLEAR of an entry that does not exist (R10). -/
theorem exec_blockClear_noEntry {s : State} {tag : Byte} {rest : List Order} {x : Nat} (hx : 8 ≤ x) (byte : x < 256)
    (h : OrderAt s 0x02 tag (writeFields [1] [x]) rest) :
    exec .blockClear s = answered (taken s rest) 0x02 tag .badValue :=
  exec_blockClear_at h (orderBlockClear_noEntry (readFields_writeFields ⟨byte, trivial⟩) hx _)

/-- BLOCK-CLEAR of one of the eight entries (R10). -/
theorem exec_blockClear_entry {s : State} {tag : Byte} {rest : List Order} {e : Fin 8}
    (h : OrderAt s 0x02 tag (writeFields [1] [e.val]) rest) :
    (s.dir.blocks[e] ≠ none → exec .blockClear s
      = answered ((taken s rest).setDir { s.dir with blocks := s.dir.blocks.set e none }) 0x02 tag (.done []))
    ∧ (s.dir.blocks[e] = none → exec .blockClear s = answered (taken s rest) 0x02 tag .unknown) := by
  have he : e.val < 256 ^ 1 := by omega
  have gives := orderBlockClear_entry (readFields_writeFields ⟨he, trivial⟩) (taken s rest)
  exact ⟨fun defined => exec_blockClear_at h (gives.trans (if_neg (mt Option.isNone_iff_eq_none.1 defined))),
    fun undefined => exec_blockClear_at h (gives.trans (if_pos (Option.isNone_iff_eq_none.2 undefined)))⟩

/-- Settles O4: an entry number out of range is met before anything else; for one of the eight entries the statement's condition
is the test of R9 (`Directory.accepts_iff`). -/
theorem blockOrdersWriteTheNumberPlan : Obligations.BlockOrdersWriteTheNumberPlan := by
  refine ⟨fun s tag rest x fields hx byte => ⟨fun h three => exec_blockDefine_noEntry hx byte three h,
    fun h => exec_blockClear_noEntry hx byte h⟩, fun s tag rest e => ⟨?_, exec_blockClear_entry⟩⟩
  intro first count index hf hc hi h fits
  obtain ⟨written, refused⟩ := exec_blockDefine_entry hf hc hi h
  have test : s.dir.accepts e ⟨first, count, index⟩ = true ↔ fits := Directory.accepts_iff _ _ _
  exact ⟨fun ok => written (test.2 ok), fun bad => refused (mt test.1 bad)⟩

end Sys2Proof.Machine
end

