-- ==== Sys2Proof/Proofs/Phrases.lean ====
section
/-! SUPPORT. Proofs/Phrases.lean: the number and the text of a PHRASE-SET body, read back, what the meanings of PHRASE-SET and
PHRASE-CLEAR give for them, and the statement of their two rows (R40). -/

namespace Sys2Proof.Machine

/-! ## The fields of a phrase -/

/-- The phrase number in front of a body, and what follows it. -/
theorem takeNat_writeFields_one {n : Nat} (byte : n < 256) (after : List Byte) :
    takeNat 1 (writeFields [1] [n] ++ after) = some (n, after) := takeNat_be (n := 1) byte after

theorem drop_writeFields_one (n : Nat) (after : List Byte) : (writeFields [1] [n] ++ after).drop 1 = after := rfl

/-- A text longer than its limit is malformed (R187). -/
theorem readText_tooLong {limit : Nat} {text : List Byte} (long : limit < text.length) (byte : text.length < 256) :
    readText limit (be 1 text.length ++ text) = none := by
  have length : takeNat 1 (be 1 text.length ++ text) = some (text.length, text) := takeNat_be (n := 1) byte text
  simp only [readText, length, Nat.not_le.2 long, false_and, if_false]

theorem printable_iff (c : Byte) : printable c = true ↔ 0x20 ≤ c.toNat ∧ c.toNat ≤ 0x7E := by
  simp only [printable, Bool.and_eq_true, decide_eq_true_eq]

/-- The test of a phrase text is the condition of R40. -/
theorem phraseText_iff (text : List Byte) :
    phraseText text = true
      ↔ text ≠ [] ∧ (∀ c ∈ text, 0x20 ≤ c.toNat ∧ c.toNat ≤ 0x7E) ∧ escapeState text = some .plain := by
  simp only [phraseText, Bool.and_eq_true, Bool.not_eq_true', List.isEmpty_eq_false_iff, List.all_eq_true, printable_iff,
    beq_iff_eq, and_assoc]

/-! ## What the two meanings give -/

/-- PHRASE-SET with a text no longer than 40 characters: the phrase is written when number and text are in range, and
refused otherwise (R40). -/
theorem orderPhraseSet_text {body after text : List Byte} {n : Nat} (number : takeNat 1 body = some (n, after))
    (read : readText 40 (body.drop 1) = some text) (s : State) :
    orderPhraseSet body s
      = if n ≤ 99 ∧ phraseText text = true then
          (s.setIntake { s.intake with phrases := Table.set s.intake.phrases n text }, .done [])
        else (s, .badValue) := by
  simp only [orderPhraseSet, number, read]
  by_cases inRange : n ≤ 99
  · cases phraseText text <;> simp [inRange]
  · simp [inRange, Nat.lt_of_not_le inRange]

/-- PHRASE-SET without a text that can be read (R187). -/
theorem orderPhraseSet_malformed {body after : List Byte} {n : Nat} (number : takeNat 1 body = some (n, after))
    (read : readText 40 (body.drop 1) = none) (s : State) : orderPhraseSet body s = (s, .badForm) := by
  simp only [orderPhraseSet, number, read]

/-- A phrase number above 99 is BAD-VALUE (R40). -/
theorem orderPhraseClear_noPhrase {body : List Byte} {n : Nat} (read : readFields [1] body = some [n]) (hn : 99 < n)
    (s : State) : orderPhraseClear body s = (s, .badValue) := by
  simp only [orderPhraseClear, read, if_pos hn]

/-- PHRASE-CLEAR of one of the hundred phrases: a DEFINED one becomes UNDEFINED (R40). -/
theorem orderPhraseClear_phrase {body : List Byte} {n : Nat} (read : readFields [1] body = some [n]) (hn : n ≤ 99)
    (s : State) :
    orderPhraseClear body s
      = if Table.get s.intake.phrases n = none then (s, .unknown)
        else (s.setIntake { s.intake with phrases := Table.erase s.intake.phrases n }, .done []) := by
  simp only [orderPhraseClear, read, if_neg (Nat.not_lt.2 hn), Table.has, Bool.not_eq_true',
    Option.isSome_eq_false_iff, Option.isNone_iff_eq_none]

/-! ## The two rows -/

theorem exec_phraseSet_at {s t : State} {tag : Byte} {body : List Byte} {rest : List Order} {r : Result}
    (h : OrderAt s 0x0E tag body rest) (gives : orderPhraseSet body (taken s rest) = (t, r)) :
    exec .phraseSet s = answered t 0x0E tag r :=
  runOrder_gives (accepts := ofKind 0x0E) (meaning := orderPhraseSet) h rfl gives

theorem exec_phraseClear_at {s t : State} {tag : Byte} {body : List Byte} {rest : List Order} {r : Result}
    (h : OrderAt s 0x0F tag body rest) (gives : orderPhraseClear body (taken s rest) = (t, r)) :
    exec .phraseClear s = answered t 0x0F tag r :=
  runOrder_gives (accepts := ofKind 0x0F) (meaning := orderPhraseClear) h rfl gives

/-- PHRASE-SET with a text of up to 40 characters, from the test of R40. -/
theorem exec_phraseSet_text {s : State} {tag : Byte} {rest : List Order} {n : Nat} {text : List Byte} (byte : n < 256)
    (short : text.length ≤ 40) (h : OrderAt s 0x0E tag (writeFields [1] [n] ++ (be 1 text.length ++ text)) rest) :
    (n ≤ 99 ∧ phraseText text = true → exec .phraseSet s
      = answered ((taken s rest).setIntake { s.intake with phrases := Table.set s.intake.phrases n text })
          0x0E tag (.done []))
    ∧ (¬ (n ≤ 99 ∧ phraseText text = true) → exec .phraseSet s = answered (taken s rest) 0x0E tag .badValue) := by
  have read : readText 40 ((writeFields [1] [n] ++ (be 1 text.length ++ text)).drop 1) = some text := by
    rw [drop_writeFields_one, readText_counted short (by decide)]
  have gives := orderPhraseSet_text (takeNat_writeFields_one byte _) read (taken s rest)
  exact ⟨fun fits => exec_phraseSet_at h (gives.trans (if_pos fits)),
    fun fails => exec_phraseSet_at h (gives.trans (if_neg fails))⟩

/-- PHRASE-SET with a text of more than 40 characters (R187). -/
theorem exec_phraseSet_tooLong {s : State} {tag : Byte} {rest : List Order} {n : Nat} {text : List Byte} (byte : n < 256)
    (long : 40 < text.length) (short : text.length < 256)
    (h : OrderAt s 0x0E tag (writeFields [1] [n] ++ (be 1 text.length ++ text)) rest) :
    exec .phraseSet s = answered (taken s rest) 0x0E tag .badForm := by
  have read : readText 40 ((writeFields [1] [n] ++ (be 1 text.length ++ text)).drop 1) = none := by
    rw [drop_writeFields_one, readText_tooLong long short]
  exact exec_phraseSet_at h (orderPhraseSet_malformed (takeNat_writeFields_one byte _) read _)

/-- PHRASE-CLEAR: the number is met before the state of the phrase (R40). -/
theorem exec_phraseClear_number {s : State} {tag : Byte} {rest : List Order} {n : Nat} (byte : n < 256)
    (h : OrderAt s 0x0F tag (writeFields [1] [n]) rest) :
    (99 < n → exec .phraseClear s = answered (taken s rest) 0x0F tag .badValue)
    ∧ (n ≤ 99 → Table.get s.intake.phrases n = none → exec .phraseClear s = answered (taken s rest) 0x0F tag .unknown)
    ∧ (n ≤ 99 → Table.get s.intake.phrases n ≠ none → exec .phraseClear s
      = answered ((taken s rest).setIntake { s.intake with phrases := Table.erase s.intake.phrases n })
          0x0F tag (.done [])) := by
  have read : readFields [1] (writeFields [1] [n]) = some [n] := readFields_writeFields ⟨byte, trivial⟩
  refine ⟨fun hn => exec_phraseClear_at h (orderPhraseClear_noPhrase read hn _), fun hn undefined => ?_,
    fun hn defined => ?_⟩
  · exact exec_phraseClear_at h ((orderPhraseClear_phrase read hn _).trans (if_pos undefined))
  · exact exec_phraseClear_at h ((orderPhraseClear_phrase read hn _).trans (if_neg defined))

/-- Settles O11: the length of the text decides between BAD-FORM and a text that is read; for one that is read the statement's
condition is the number's range and the test of R40 (`phraseText_iff`). -/
theorem phraseOrdersWriteTheTable : Obligations.PhraseOrdersWriteTheTable := by
  refine fun s tag rest n byte => ⟨fun text short h => ?_, fun text long short => exec_phraseSet_tooLong byte long short,
    exec_phraseClear_number byte⟩
  intro fits
  obtain ⟨written, refused⟩ := exec_phraseSet_text byte short h
  have test : n ≤ 99 ∧ phraseText text = true ↔ fits := and_congr_right fun _ => phraseText_iff text
  exact ⟨fun ok => written (test.2 ok), fun bad => refused (mt test.1 bad)⟩

end Sys2Proof.Machine
end

