-- ==== Sys2Proof/Proofs/Accounts.lean ====
section
/-! SUPPORT. Proofs/Accounts.lean: what an append, the LOW-BALANCE check and a credit leave of the part, and what the meanings of
ACCOUNT-CREDIT, TARIFF-DEFINE and PERIOD-CLOSE give for the fields they read (R72, R76, R79, R81, R86). -/

namespace Sys2Proof.Machine

/-! ## Signed fields, identifiers and free slots -/

/-- A signed number that fits its bytes is read back (R186). -/
theorem intOf_beSigned {n : Nat} {x : Int} (low : -((256 ^ n / 2 : Nat) : Int) ≤ x) (high : x < (256 ^ n / 2 : Nat)) :
    intOf (beSigned n x) = x := by
  simp only [intOf, beSigned, length_be]
  generalize size : 256 ^ n = N at low high ⊢
  rcases Int.lt_or_le x 0 with negative | positive
  · have wraps : x % (N : Int) = x + N := by
      rw [← Int.add_emod_right, Int.emod_eq_of_lt] <;> omega
    have read : natOf (be n (x % (N : Int)).toNat) = (x + N).toNat := by
      rw [wraps, natOf_be_of_lt]
      omega
    rw [read, if_neg] <;> omega
  · have plain : x % (N : Int) = x := Int.emod_eq_of_lt positive (by omega)
    have read : natOf (be n (x % (N : Int)).toNat) = x.toNat := by
      rw [plain, natOf_be_of_lt]
      omega
    rw [read, if_pos] <;> omega

/-- The body of ACCOUNT-CREDIT, its amount left as the number its four bytes give. -/
theorem readFields_accountAmount {a : Nat} (fits : a < 65536) (amount : Int) :
    readFields [2, 4] (writeFields [2] [a] ++ beSigned 4 amount)
      = some [a, (amount % (256 ^ 4 : Nat)).toNat] := by
  have body : writeFields [2] [a] ++ beSigned 4 amount
      = writeFields [2, 4] [a, (amount % (256 ^ 4 : Nat)).toNat] := by
    simp [writeFields, beSigned]
  have bounded : (amount % (256 ^ 4 : Nat)).toNat < 256 ^ 4 := by omega
  rw [body]
  exact readFields_writeFields ⟨fits, bounded, trivial⟩

/-- The amount behind the account id of an ACCOUNT-CREDIT body (R76). -/
theorem intOf_drop_account {amount : Int} (a : Nat) (low : -2147483648 ≤ amount) (high : amount ≤ 2147483647) :
    intOf ((writeFields [2] [a] ++ beSigned 4 amount).drop 2) = amount := by
  have tail : (writeFields [2] [a] ++ beSigned 4 amount).drop 2 = beSigned 4 amount := rfl
  rw [tail]
  exact intOf_beSigned (n := 4) (by omega) (by omega)

theorem accountId_of_le {a : Nat} (h : a ≤ 1023) : accountId a = some a := if_pos ⟨Nat.zero_le a, h⟩

theorem accountId_of_lt {a : Nat} (h : 1023 < a) : accountId a = none := if_neg fun within => by omega

theorem planId_of_le {p : Nat} (h : p ≤ 31) : planId p = some p := if_pos ⟨Nat.zero_le p, h⟩

theorem planId_of_lt {p : Nat} (h : 31 < p) : planId p = none := if_neg fun within => by omega

/-- No slot is free exactly when records and live pages together fill the journal (R86). -/
theorem freeSlots_eq_zero_iff (s : State) :
    s.freeSlots = 0 ↔ 2048 ≤ s.journal.records.length + s.store.pages.length := by
  simp only [State.freeSlots, State.livePages, Config.journalPlaces]
  omega

/-! ## What an account order with a record may touch -/

/-- Between two states only the accounts, the journal, the alarm outputs and the notices have moved. -/
def LedgerMoved (s t : State) : Prop :=
  t = { s with
        money := t.money, journal := t.journal, sites := t.sites
        port := { s.port with notices := t.port.notices, lost := t.port.lost } }

theorem LedgerMoved.trans {s t u : State} (first : LedgerMoved s t) (second : LedgerMoved t u) : LedgerMoved s u := by
  unfold LedgerMoved at *
  rw [first] at second
  exact second

theorem ledgerMoved_setMoney (s : State) (m : AccountUnit) : LedgerMoved s (s.setMoney m) := rfl

theorem ledgerMoved_raise (s : State) (n : Notice) : LedgerMoved s (raise s n) := by
  unfold LedgerMoved raise
  dsimp only
  repeat' split
  all_goals rfl

theorem ledgerMoved_appendRecord (s : State) (a : Nat) (b : JournalBody) : LedgerMoved s (appendRecord s a b) := by
  obtain ⟨-, frame⟩ := appendRecord_does s a b
  unfold LedgerMoved
  rw [frame]

@[simp] theorem appendRecord_money (s : State) (a : Nat) (b : JournalBody) : (appendRecord s a b).money = s.money := by
  obtain ⟨-, frame⟩ := appendRecord_does s a b
  rw [frame]

/-! ## An append with room for its notice -/

theorem raise_room_length {s : State} (n : Notice) (lost : s.port.lost = 0) (room : s.port.notices.length < 64) :
    (raise s n).port.lost = 0 ∧ (raise s n).port.notices.length = s.port.notices.length + 1 := by
  rw [raise_room n lost room]
  exact ⟨lost, List.length_append⟩

/-- With none lost and a place free, an evaluation of JOURNAL-HIGH appends one notice at most and loses none (R89, R178). -/
theorem evalJournalHigh_room {s : State} (lost : s.port.lost = 0) (room : s.port.notices.length < 64) :
    (evalJournalHigh s).port.lost = 0 ∧ (evalJournalHigh s).port.notices.length ≤ s.port.notices.length + 1 := by
  unfold evalJournalHigh
  dsimp only
  split
  · exact ⟨lost, Nat.le_succ _⟩
  · have raised (j : Journal) (n : Notice) := raise_room_length (s := s.setJournal j) n lost room
    exact ⟨(raised _ _).1, Nat.le_of_eq (raised _ _).2⟩

theorem appendRecord_room {s : State} (a : Nat) (b : JournalBody) (lost : s.port.lost = 0)
    (room : s.port.notices.length < 64) :
    (appendRecord s a b).port.lost = 0 ∧ (appendRecord s a b).port.notices.length ≤ s.port.notices.length + 1 :=
  evalJournalHigh_room (s := s.setJournal _) lost room

/-! ## The LOW-BALANCE check -/

/-- The money fields as the LOW-BALANCE check leaves them (R72). -/
def Money.checked (m : Money) : Money := if m.lowDue.isSome then m.withNotice true else m

/-- The check writes the money fields of its account and no other (R72). -/
theorem checkLowBalance_money {s : State} {m : AccountUnit} {accounts : Table Account} {a : Nat} {x : Account}
    (h : s.money = { m with accounts := Table.set accounts a x }) :
    (checkLowBalance s a).money
      = { m with accounts := Table.set accounts a { x with money := x.money.checked } } := by
  have found : s.account a = some x := by simp [State.account, h]
  cases due : x.money.lowDue with
  | none =>
    have quiet : checkLowBalance s a = s := checkLowBalance_quiet fun y hy => by
      rw [found] at hy
      cases hy
      exact due
    rw [quiet, h]
    simp [Money.checked, due]
  | some notice =>
    rw [checkLowBalance_due found due]
    simp [h, Table.set_set_same, Money.checked, due]

/-- What the check can do: nothing, or write accounts and raise a notice (R72). -/
theorem checkLowBalance_cases (s : State) (a : Nat) :
    checkLowBalance s a = s ∨ ∃ m n, checkLowBalance s a = raise (s.setMoney m) n := by
  unfold checkLowBalance
  repeat' split
  · exact .inl rfl
  · exact .inl rfl
  · exact .inr ⟨_, _, rfl⟩

theorem ledgerMoved_checkLowBalance (s : State) (a : Nat) : LedgerMoved s (checkLowBalance s a) := by
  obtain same | ⟨m, n, raised⟩ := checkLowBalance_cases s a
  · rw [same]
    rfl
  · rw [raised]
    exact (ledgerMoved_setMoney s m).trans (ledgerMoved_raise _ n)

/-- A notice that waits still waits after another has been raised (R178). -/
theorem mem_notices_raise {s : State} {m : Notice} (n : Notice) (waits : m ∈ s.port.notices) :
    m ∈ (raise s n).port.notices := by
  unfold raise
  dsimp only
  repeat' split
  all_goals simp [waits]

/-- The LOW-BALANCE check leaves the journal and the alarm outputs alone and takes no notice away, so a record appended before it
stands appended (R72, R85). -/
theorem RecordAppended.checkLowBalance {s t : State} {a : Nat} {b : JournalBody} (h : RecordAppended s t a b) (c : Nat) :
    RecordAppended s (checkLowBalance t c) a b := by
  obtain same | ⟨m, n, raised⟩ := checkLowBalance_cases t c
  · rwa [same]
  · obtain ⟨journal, links, steady, notified⟩ := h
    rw [raised]
    refine ⟨?_, ?_, ?_, fun moved lost room => mem_notices_raise n (notified moved lost room)⟩
    · simpa using journal
    · simpa using links
    · simpa using steady

/-! ## A credit -/

/-- Low-notice given after a credit and the check behind it: set by a lowering that leaves the balance below the threshold,
else kept unless the balance stands at or above it (R72, R76). -/
theorem creditedMoney_checked (amount balance : Int) (threshold : Option Nat) (given : Bool) :
    ∃ after : Bool,
      (if amount < 0 then (creditedMoney balance threshold given).checked else creditedMoney balance threshold given)
          = .prepaid balance threshold after
        ∧ (after = true ↔ (amount < 0 ∧ ∃ t : Nat, threshold = some t ∧ balance < t)
            ∨ (given = true ∧ ¬ ∃ t : Nat, threshold = some t ∧ (t : Int) ≤ balance)) := by
  cases threshold with
  | none => exact ⟨given, by simp [creditedMoney, Money.checked, Money.lowDue], by simp⟩
  | some t =>
    rcases Int.lt_or_le balance t with below | above
    · have notAbove : ¬ (t : Int) ≤ balance := Int.not_le.2 below
      refine ⟨decide (amount < 0) || given, ?_, by simp [below]⟩
      by_cases lowered : amount < 0
      · cases given <;> simp [creditedMoney, Money.checked, Money.lowDue, Money.withNotice, lowered, below, notAbove]
      · simp [creditedMoney, lowered, notAbove]
    · have notBelow : ¬ balance < t := Int.not_lt.2 above
      exact ⟨false, by simp [creditedMoney, Money.checked, Money.lowDue, above, notBelow], by simp [above, notBelow]⟩

/-- The state of a credit before the LOW-BALANCE check: the balance moved and the record appended (R76). -/
def credited (s : State) (a : Nat) (amount balance : Int) (threshold : Option Nat) (given : Bool) : State :=
  appendRecord (s.modifyAccount a fun x => { x with money := creditedMoney balance threshold given }) a
    (.credit amount balance)

theorem credit_eq (s : State) (a : Nat) (amount balance : Int) (threshold : Option Nat) (given : Bool) :
    credit s a amount balance threshold given
      = if amount < 0 then checkLowBalance (credited s a amount balance threshold given) a
        else credited s a amount balance threshold given := rfl

section
variable {s : State} {a : Nat} {amount balance : Int} {threshold : Option Nat} {given : Bool}

theorem credit_recordAppended :
    RecordAppended s (credit s a amount balance threshold given) a (.credit amount balance) := by
  have appended : RecordAppended s (credited s a amount balance threshold given) a (.credit amount balance) :=
    (appendRecord_does (s.modifyAccount a _) a _).1
  rw [credit_eq]
  split
  · exact appended.checkLowBalance a
  · exact appended

theorem ledgerMoved_credit : LedgerMoved s (credit s a amount balance threshold given) := by
  have moved : LedgerMoved s (credited s a amount balance threshold given) :=
    (ledgerMoved_setMoney s _).trans (ledgerMoved_appendRecord _ a _)
  rw [credit_eq]
  split
  · exact moved.trans (ledgerMoved_checkLowBalance _ a)
  · exact moved

theorem credited_money {x : Account} (found : s.account a = some x) :
    (credited s a amount balance threshold given).money
      = { s.money with
          accounts := Table.set s.money.accounts a { x with money := creditedMoney balance threshold given } } := by
  rw [credited, appendRecord_money, State.modifyAccount, State.money_setMoney, Table.modify_of_get _ found]

theorem credit_money {x : Account} (found : s.account a = some x) :
    (credit s a amount balance threshold given).money
      = { s.money with
          accounts := Table.set s.money.accounts a
            { x with
              money :=
                if amount < 0 then (creditedMoney balance threshold given).checked
                else creditedMoney balance threshold given } } := by
  rw [credit_eq]
  split
  · exact checkLowBalance_money (credited_money found)
  · exact credited_money found

/-- A negative amount that leaves the balance below the threshold raises LOW-BALANCE where no notice has been given (R72). -/
theorem credit_lowBalance {x : Account} {t : Nat} (found : s.account a = some x) (lowered : amount < 0)
    (below : balance < t) (lost : s.port.lost = 0) (room : s.port.notices.length < 63) :
    (.lowBalance a balance t) ∈ (credit s a amount balance (some t) false).port.notices := by
  obtain ⟨lost', room'⟩ : (credited s a amount balance (some t) false).port.lost = 0
      ∧ (credited s a amount balance (some t) false).port.notices.length ≤ s.port.notices.length + 1 :=
    appendRecord_room (s := s.modifyAccount a _) a _ lost (Nat.lt_trans room (by decide))
  have stands : (credited s a amount balance (some t) false).account a
      = some { x with money := creditedMoney balance (some t) false } := by
    simp [State.account, credited_money found]
  have due : (creditedMoney balance (some t) false).lowDue = some (balance, t) := by
    simp [creditedMoney, Money.lowDue, below]
  rw [credit_eq, if_pos lowered, checkLowBalance_due stands due, raise_room]
  · simp
  · simpa using lost'
  · simp only [State.port_setMoney]
    omega

end

/-! ## What the meaning of ACCOUNT-CREDIT gives -/

section
variable {body : List Byte} {a n : Nat} {amount : Int} {s : State}

/-- An amount of 0 or an id out of range is met before the record (R76). -/
theorem orderAccountCredit_outOfRange (read : readFields [2, 4] body = some [a, n]) (value : intOf (body.drop 2) = amount)
    (out : amount = 0 ∨ 1023 < a) : orderAccountCredit body s = (s, .badValue) := by
  rcases Nat.lt_or_ge 1023 a with noAccount | inRange
  · simp only [orderAccountCredit, read, accountId_of_lt noAccount]
  · have zero : amount = 0 := out.resolve_right (Nat.not_lt.2 inRange)
    simp only [orderAccountCredit, read, accountId_of_le inRange, value, zero, if_true]

theorem orderAccountCredit_free (read : readFields [2, 4] body = some [a, n]) (value : intOf (body.drop 2) = amount)
    (nonzero : amount ≠ 0) (inRange : a ≤ 1023) (free : s.account a = none) :
    orderAccountCredit body s = (s, .unknown) := by
  simp only [orderAccountCredit, read, accountId_of_le inRange, value, if_neg nonzero, free]

theorem orderAccountCredit_postpaid {x : Account} {limit : Nat} (read : readFields [2, 4] body = some [a, n])
    (value : intOf (body.drop 2) = amount) (nonzero : amount ≠ 0) (inRange : a ≤ 1023) (found : s.account a = some x)
    (kind : x.money = .postpaid limit) : orderAccountCredit body s = (s, .badValue) := by
  simp only [orderAccountCredit, read, accountId_of_le inRange, value, if_neg nonzero, found, kind]

/-- A PREPAID account: the new balance's range is judged before the journal's room (R76, R86). -/
theorem orderAccountCredit_prepaid {x : Account} {old : Int} {threshold : Option Nat} {given : Bool}
    (read : readFields [2, 4] body = some [a, n]) (value : intOf (body.drop 2) = amount) (nonzero : amount ≠ 0)
    (inRange : a ≤ 1023) (found : s.account a = some x) (kind : x.money = .prepaid old threshold given) :
    orderAccountCredit body s
      = if ¬ (-2147483648 ≤ old + amount ∧ old + amount ≤ 2147483647) then (s, .badValue)
        else if 2048 ≤ s.journal.records.length + s.store.pages.length then (s, .full)
        else
          (credit s a amount (old + amount) threshold given,
            .done (beSigned 4 (old + amount) ++ be 4 s.journal.nextSeq.toNat)) := by
  have outside : (old + amount < -2147483648 ∨ 2147483647 < old + amount)
      ↔ ¬ (-2147483648 ≤ old + amount ∧ old + amount ≤ 2147483647) := by omega
  simp only [orderAccountCredit, read, accountId_of_le inRange, value, if_neg nonzero, found, kind, freeSlots_eq_zero_iff,
    outside]

end

/-! ## The row ACCOUNT-CREDIT -/

theorem exec_accountCredit_at {s t : State} {tag : Byte} {body : List Byte} {rest : List Order} {r : Result}
    (h : OrderAt s 0x19 tag body rest) (gives : orderAccountCredit body (taken s rest) = (t, r)) :
    exec .accountCredit s = answered t 0x19 tag r :=
  runOrder_gives (accepts := ofKind 0x19) (meaning := orderAccountCredit) h rfl gives

/-- Settles O17: the checks of R76 in their order; what a credit that passes them does is what the append and the LOW-BALANCE check
do (`credit_recordAppended`, `credit_money`, `credit_lowBalance`, `ledgerMoved_credit`). -/
theorem accountCreditMovesTheBalance : Obligations.AccountCreditMovesTheBalance := by
  intro s tag rest a amount size low high h
  have read := readFields_accountAmount size amount
  have value := intOf_drop_account a low high
  refine ⟨fun out => exec_accountCredit_at h (orderAccountCredit_outOfRange read value out),
    fun nonzero inRange free => exec_accountCredit_at h (orderAccountCredit_free read value nonzero inRange free),
    fun x limit nonzero inRange found kind =>
      exec_accountCredit_at h (orderAccountCredit_postpaid read value nonzero inRange found kind), ?_⟩
  intro x old threshold given nonzero inRange found kind balance fits below above full
  have gives := orderAccountCredit_prepaid (s := taken s rest) read value nonzero inRange found kind
  refine ⟨fun unfit => exec_accountCredit_at h (gives.trans (if_pos unfit)),
    fun fit noSlot => exec_accountCredit_at h ((gives.trans (if_neg fun unfit => unfit fit)).trans (if_pos noSlot)),
    fun fit slot => ?_⟩
  obtain ⟨after, money, noted⟩ := creditedMoney_checked amount balance threshold given
  have accounts := credit_money (amount := amount) (balance := balance) (threshold := threshold) (given := given)
    (s := taken s rest) found
  rw [money] at accounts
  refine ⟨credit (taken s rest) a amount balance threshold given, after,
    exec_accountCredit_at h ((gives.trans (if_neg fun unfit => unfit fit)).trans (if_neg slot)), credit_recordAppended, ?_, noted,
    ?_, ?_, ?_, ledgerMoved_credit⟩
  · rw [State.account, accounts, Table.get_set_same]
  · rintro lowered ⟨t, rfl, isBelow⟩ rfl lost room
    exact ⟨t, rfl, credit_lowBalance (s := taken s rest) found lowered isBelow lost room⟩
  · intro b other
    rw [State.account, accounts, Table.get_set_other _ _ other]
    rfl
  · rw [accounts]
    rfl

/-! ## What the meaning of TARIFF-DEFINE gives -/

section
variable {body : List Byte} {p page member perTen pri emg fee : Nat}

/-- A plan id or an attempt fee out of range is met before the plan (R79). -/
theorem orderTariffDefine_outOfRange
    (read : readFields [1, 2, 2, 2, 2, 2, 2] body = some [p, page, member, perTen, pri, emg, fee])
    (out : ¬ (p ≤ 31 ∧ fee ≤ page ∧ fee ≤ member)) (s : State) : orderTariffDefine body s = (s, .badValue) := by
  rcases Nat.lt_or_ge 31 p with noPlan | inRange
  · simp only [orderTariffDefine, read, planId_of_lt noPlan]
  · have tooHigh : page < fee ∨ member < fee := by omega
    simp only [orderTariffDefine, read, planId_of_le inRange, if_pos tooHigh]

/-- Amounts in range are written, and with them a plan that no account names (R79). -/
theorem orderTariffDefine_inRange
    (read : readFields [1, 2, 2, 2, 2, 2, 2] body = some [p, page, member, perTen, pri, emg, fee])
    (fits : p ≤ 31 ∧ fee ≤ page ∧ fee ≤ member) (s : State) :
    ((∃ x, s.plan p = some x ∧ 0 < x.accounts) → orderTariffDefine body s = (s, .inUse))
    ∧ ((¬ ∃ x, s.plan p = some x ∧ 0 < x.accounts) → orderTariffDefine body s
      = (s.setMoney { s.money with plans := Table.set s.money.plans p ⟨page, member, perTen, pri, emg, fee, 0⟩ },
          .done [])) := by
  obtain ⟨inRange, pageFee, memberFee⟩ := fits
  have notTooHigh : ¬ (page < fee ∨ member < fee) := by omega
  simp only [orderTariffDefine, read, planId_of_le inRange, if_neg notTooHigh]
  cases s.plan p with
  | none => simp
  | some x =>
    rcases Nat.eq_zero_or_pos x.accounts with unnamed | named
    · simp [unnamed]
    · simp [named]

end

theorem exec_tariffDefine_at {s t : State} {tag : Byte} {body : List Byte} {rest : List Order} {r : Result}
    (h : OrderAt s 0x1C tag body rest) (gives : orderTariffDefine body (taken s rest) = (t, r)) :
    exec .tariffDefine s = answered t 0x1C tag r :=
  runOrder_gives (accepts := ofKind 0x1C) (meaning := orderTariffDefine) h rfl gives

/-! ## What the meaning of PERIOD-CLOSE gives -/

/-- The state of a period that closes: its record appended, then the period fields of the account set to 0 (R81). -/
def periodClosed (s : State) (a : Nat) (x : Account) : State :=
  (appendRecord s a (.period x.periodCharged x.periodDelivered x.periodNotDelivered)).modifyAccount a Account.closePeriod

theorem periodClosed_recordAppended (s : State) (a : Nat) (x : Account) :
    RecordAppended s (periodClosed s a x) a (.period x.periodCharged x.periodDelivered x.periodNotDelivered) :=
  (appendRecord_does s a _).1

theorem ledgerMoved_periodClosed (s : State) (a : Nat) (x : Account) : LedgerMoved s (periodClosed s a x) :=
  (ledgerMoved_appendRecord s a _).trans (ledgerMoved_setMoney _ _)

theorem periodClosed_money {s : State} {a : Nat} {x : Account} (found : s.account a = some x) :
    (periodClosed s a x).money
      = { s.money with accounts := Table.set s.money.accounts a x.closePeriod } := by
  rw [periodClosed, State.modifyAccount, State.money_setMoney, appendRecord_money, Table.modify_of_get _ found]

section
variable {body : List Byte} {a : Nat}

theorem orderPeriodClose_noAccount (read : readFields [2] body = some [a]) (out : 1023 < a) (s : State) :
    orderPeriodClose body s = (s, .badValue) := by
  simp only [orderPeriodClose, read, accountId_of_lt out]

theorem orderPeriodClose_free {s : State} (read : readFields [2] body = some [a]) (inRange : a ≤ 1023)
    (free : s.account a = none) : orderPeriodClose body s = (s, .unknown) := by
  simp only [orderPeriodClose, read, accountId_of_le inRange, free]

/-- A period closes where the journal has room for its record (R81, R86). -/
theorem orderPeriodClose_defined {s : State} {x : Account} (read : readFields [2] body = some [a]) (inRange : a ≤ 1023)
    (found : s.account a = some x) :
    orderPeriodClose body s
      = if 2048 ≤ s.journal.records.length + s.store.pages.length then (s, .full)
        else
          (periodClosed s a x,
            .done
              (be 4 x.periodCharged ++ be 4 x.periodDelivered ++ be 4 x.periodNotDelivered
                ++ be 4 s.journal.nextSeq.toNat)) := by
  simp only [orderPeriodClose, read, accountId_of_le inRange, found, freeSlots_eq_zero_iff, periodClosed]

end

theorem exec_periodClose_at {s t : State} {tag : Byte} {body : List Byte} {rest : List Order} {r : Result}
    (h : OrderAt s 0x1E tag body rest) (gives : orderPeriodClose body (taken s rest) = (t, r)) :
    exec .periodClose s = answered t 0x1E tag r :=
  runOrder_gives (accepts := ofKind 0x1E) (meaning := orderPeriodClose) h rfl gives

/-! ## The rows TARIFF-DEFINE and PERIOD-CLOSE -/

/-- Settles O18: the checks of R79 and of R81 in their order; what a period that closes leaves is what the append does
(`periodClosed_recordAppended`, `periodClosed_money`, `ledgerMoved_periodClosed`). -/
theorem tariffDefineAndPeriodCloseAct : Obligations.TariffDefineAndPeriodCloseAct := by
  intro s tag rest
  refine ⟨fun p page member perTen pri emg fee hp hpage hmember hten hpri hemg hfee h => ?tariff, fun a size h => ?period⟩
  case tariff =>
    have read := readFields_writeFields (ws := [1, 2, 2, 2, 2, 2, 2]) (xs := [p, page, member, perTen, pri, emg, fee])
      ⟨hp, hpage, hmember, hten, hpri, hemg, hfee, trivial⟩
    exact ⟨fun out => exec_tariffDefine_at h (orderTariffDefine_outOfRange read out _),
      fun fits named => exec_tariffDefine_at h ((orderTariffDefine_inRange read fits (taken s rest)).1 named),
      fun fits unnamed => exec_tariffDefine_at h ((orderTariffDefine_inRange read fits (taken s rest)).2 unnamed)⟩
  case period =>
    have read : readFields [2] (writeFields [2] [a]) = some [a] := readFields_writeFields ⟨size, trivial⟩
    refine ⟨fun out => exec_periodClose_at h (orderPeriodClose_noAccount read out _),
      fun inRange free => exec_periodClose_at h (orderPeriodClose_free read inRange free), fun x inRange found => ?_⟩
    have gives := orderPeriodClose_defined (s := taken s rest) read inRange found
    exact ⟨fun full => exec_periodClose_at h (gives.trans (if_pos full)), fun room =>
      ⟨periodClosed (taken s rest) a x, exec_periodClose_at h (gives.trans (if_neg (Nat.not_le.2 room))),
        periodClosed_recordAppended _ a x, periodClosed_money found, ledgerMoved_periodClosed _ a x⟩⟩

end Sys2Proof.Machine
end
